-- ==== Sys2Proof/Word.lean ====
section
/-! DEFINITION. The word types of the block: bytes, 32-bit register words, window indices, and the two shapes a
128-bit value takes (four register words; sixteen bytes). -/

namespace Sys2Proof

/-- A byte: an element of GF(2^8), an S-box index, one cell of a block (R6, R13). -/
abbrev Byte := BitVec 8

/-- A register word. Every register is 32 bits wide (R20). -/
abbrev Word := BitVec 32

/-- A word index of the register window: 10 bits, 0..1023 (R50). -/
abbrev WindowIndex := BitVec 10

/-- A 128-bit register group, word 0 first: DATA, IV or CHAIN (R20). -/
abbrev Group128 := Vector Word 4

/-- A block: 16 bytes `b[0..15]`; row r, column c of its state matrix is `b[4*c + r]` (R13). -/
abbrev Block := Vector Byte 16

end Sys2Proof
end

