-- ==== Sys2Proof/Syntax.lean ====
section
/-! DEFINITION. The commands of the block: one constructor per row of spec/opcode_table.json, each with the operand fields
its format gives it (R92 to R99). -/

namespace Sys2Proof

/-- A command. Every field is the unsigned integer its bits hold (R99). -/
inductive Instr where
  /-- NOP, format N (R129). -/
  | nop
  /-- KEYEXP, format K; the KLEN code 3 is the reserved key length (R93, R176, R177). -/
  | keyexp (klen : BitVec 2)
  /-- SEQINIT, format N (R220). -/
  | seqinit
  /-- SEQEND, format N (R221). -/
  | seqend
  /-- ENCBLK, format N (R207). -/
  | encblk
  /-- DECBLK, format N (R208). -/
  | decblk
  /-- MENC, format M, MODE 0 (R223). -/
  | mencEcb
  /-- MDEC, format M, MODE 0 (R224). -/
  | mdecEcb
  /-- MENC, format M, MODE 1 (R225). -/
  | mencCbc
  /-- MDEC, format M, MODE 1 (R226). -/
  | mdecCbc
  /-- MENC, format M, MODE 2 (R227). -/
  | mencCfb
  /-- MDEC, format M, MODE 2 (R228). -/
  | mdecCfb
  /-- MENC with the reserved MODE 3 (R229). -/
  | mencMode3
  /-- MDEC with the reserved MODE 3 (R229). -/
  | mdecMode3
  /-- SUBB, format N (R200). -/
  | subb
  /-- INVSUBB, format N (R201). -/
  | invsubb
  /-- SHROW, format N (R202). -/
  | shrow
  /-- INVSHROW, format N (R203). -/
  | invshrow
  /-- MIXCOL, format N (R204). -/
  | mixcol
  /-- INVMIXCOL, format N (R205). -/
  | invmixcol
  /-- ADDRK, format R (R95, R206). -/
  | addrk (ridx : BitVec 4)
  /-- GFMUL, format G (R97, R158). -/
  | gfmul (a b : Byte)
  /-- GFTAB, format T; TSEL 6 and 7 are reserved (R98, R159). -/
  | gftab (a : Byte) (tsel : BitVec 3)
  /-- SBOX, format B (R96, R160). -/
  | sbox (a : Byte)
  /-- INVSBOX, format B (R96, R161). -/
  | invsbox (a : Byte)
  deriving DecidableEq, Repr

end Sys2Proof
end

