-- ==== Sys2Proof/WellFormed.lean ====
section
/-! DEFINITION. Which commands some command word stands for. The operand types already bound every field; the one check
left is GFTAB's table select, whose values 6 and 7 name no table (R98, R101). -/

namespace Sys2Proof

/-- Some word decodes to this command. KLEN = 3 and MODE = 3 are well formed: their words decode, and the command
then raises its own error (R177, R229). -/
def Instr.wellFormed : Instr → Bool
  | .nop | .keyexp _ | .seqinit | .seqend | .encblk | .decblk => true
  | .mencEcb | .mdecEcb | .mencCbc | .mdecCbc | .mencCfb | .mdecCfb | .mencMode3 | .mdecMode3 => true
  | .subb | .invsubb | .shrow | .invshrow | .mixcol | .invmixcol | .addrk _ => true
  | .gfmul _ _ | .sbox _ | .invsbox _ => true
  | .gftab _ tsel => decide (tsel.toNat ≤ 5)

end Sys2Proof
end

