-- ==== Sys2Proof/Decode.lean ====
section
/-! DEFINITION. The decoder of R101, total on every 32-bit word and rejecting by name, and the encoder written from the
format tables R92 to R98. A command is one 32-bit word (R90, R104). -/

namespace Sys2Proof

/-- Why a word is no command (R101, R103). Each reason raises IllegalCommand when the word completes. -/
inductive IllegalWord where
  /-- The opcode is in no row of R100. -/
  | undefinedOpcode
  /-- A bit that the selected format does not assign is set (R91, R101). -/
  | reservedBitSet
  /-- GFTAB with TSEL 6 or 7 (R98, R101). -/
  | reservedTable
  deriving DecidableEq, Repr

/-- Field OP = w[7:0] (R91). -/
def opcodeField (w : Word) : Byte := w.extractLsb' 0 8

/-- Fields KLEN and MODE = w[9:8] (R93, R94). -/
def twoBitField (w : Word) : BitVec 2 := w.extractLsb' 8 2

/-- Field RIDX = w[11:8] (R95). -/
def ridxField (w : Word) : BitVec 4 := w.extractLsb' 8 4

/-- Field A = w[15:8] (R96, R97, R98). -/
def aField (w : Word) : Byte := w.extractLsb' 8 8

/-- Field B = w[23:16] (R97). -/
def bField (w : Word) : Byte := w.extractLsb' 16 8

/-- Field TSEL = w[18:16] (R98). -/
def tselField (w : Word) : BitVec 3 := w.extractLsb' 16 3

/-- Accept `i` when every bit of `w` from bit `lo` up is zero: w[31:lo] is the reserved field of the format (R101). -/
def ifReservedClear (w : Word) (lo : Nat) (i : Instr) : Except IllegalWord Instr :=
  if w >>> lo = 0 then .ok i else .error .reservedBitSet

/-- MENC's row is selected by OP and MODE together (R100). -/
def mencOfMode (mode : BitVec 2) : Instr :=
  if mode = 0 then .mencEcb else if mode = 1 then .mencCbc else if mode = 2 then .mencCfb else .mencMode3

/-- MDEC's row is selected by OP and MODE together (R100). -/
def mdecOfMode (mode : BitVec 2) : Instr :=
  if mode = 0 then .mdecEcb else if mode = 1 then .mdecCbc else if mode = 2 then .mdecCfb else .mdecMode3

/-- GFTAB: the reserved bits first, then TSEL (R101). -/
def decodeGftab (w : Word) : Except IllegalWord Instr :=
  if w >>> 19 = 0 then
    if (tselField w).toNat ≤ 5 then .ok (.gftab (aField w) (tselField w)) else .error .reservedTable
  else .error .reservedBitSet

/-- R101, by the opcode map of R100. -/
def decode (w : Word) : Except IllegalWord Instr :=
  let op := opcodeField w
  if op = 0x00 then ifReservedClear w 8 .nop
  else if op = 0x01 then ifReservedClear w 10 (.keyexp (twoBitField w))
  else if op = 0x02 then ifReservedClear w 8 .seqinit
  else if op = 0x03 then ifReservedClear w 8 .seqend
  else if op = 0x08 then ifReservedClear w 8 .encblk
  else if op = 0x09 then ifReservedClear w 8 .decblk
  else if op = 0x10 then ifReservedClear w 10 (mencOfMode (twoBitField w))
  else if op = 0x11 then ifReservedClear w 10 (mdecOfMode (twoBitField w))
  else if op = 0x20 then ifReservedClear w 8 .subb
  else if op = 0x21 then ifReservedClear w 8 .invsubb
  else if op = 0x22 then ifReservedClear w 8 .shrow
  else if op = 0x23 then ifReservedClear w 8 .invshrow
  else if op = 0x24 then ifReservedClear w 8 .mixcol
  else if op = 0x25 then ifReservedClear w 8 .invmixcol
  else if op = 0x26 then ifReservedClear w 12 (.addrk (ridxField w))
  else if op = 0x30 then ifReservedClear w 24 (.gfmul (aField w) (bField w))
  else if op = 0x31 then decodeGftab w
  else if op = 0x32 then ifReservedClear w 16 (.sbox (aField w))
  else if op = 0x33 then ifReservedClear w 16 (.invsbox (aField w))
  else .error .undefinedOpcode

/-- The OP of each command (R100). -/
def opcodeOf : Instr → Byte
  | .nop => 0x00
  | .keyexp _ => 0x01
  | .seqinit => 0x02
  | .seqend => 0x03
  | .encblk => 0x08
  | .decblk => 0x09
  | .mencEcb => 0x10
  | .mdecEcb => 0x11
  | .mencCbc => 0x10
  | .mdecCbc => 0x11
  | .mencCfb => 0x10
  | .mdecCfb => 0x11
  | .mencMode3 => 0x10
  | .mdecMode3 => 0x11
  | .subb => 0x20
  | .invsubb => 0x21
  | .shrow => 0x22
  | .invshrow => 0x23
  | .mixcol => 0x24
  | .invmixcol => 0x25
  | .addrk _ => 0x26
  | .gfmul _ _ => 0x30
  | .gftab _ _ => 0x31
  | .sbox _ => 0x32
  | .invsbox _ => 0x33

/-- Format N: 31..8 zero, OP (R92). -/
def encodeN (op : Byte) : Word := 0#24 ++ op

/-- Formats K and M: 31..10 zero, KLEN or MODE, OP (R93, R94). -/
def encodeK (op : Byte) (field : BitVec 2) : Word := 0#22 ++ field ++ op

/-- Format R: 31..12 zero, RIDX, OP (R95). -/
def encodeR (op : Byte) (ridx : BitVec 4) : Word := 0#20 ++ ridx ++ op

/-- Format B: 31..16 zero, A, OP (R96). -/
def encodeB (op a : Byte) : Word := 0#16 ++ a ++ op

/-- Format G: 31..24 zero, B, A, OP (R97). -/
def encodeG (op a b : Byte) : Word := 0#8 ++ b ++ a ++ op

/-- Format T: 31..19 zero, TSEL, A, OP (R98). -/
def encodeT (op a : Byte) (tsel : BitVec 3) : Word := 0#13 ++ tsel ++ a ++ op

/-- The word of a command (R92 to R100). -/
def encode : Instr → Word
  | .nop => encodeN 0x00
  | .keyexp klen => encodeK 0x01 klen
  | .seqinit => encodeN 0x02
  | .seqend => encodeN 0x03
  | .encblk => encodeN 0x08
  | .decblk => encodeN 0x09
  | .mencEcb => encodeK 0x10 0
  | .mdecEcb => encodeK 0x11 0
  | .mencCbc => encodeK 0x10 1
  | .mdecCbc => encodeK 0x11 1
  | .mencCfb => encodeK 0x10 2
  | .mdecCfb => encodeK 0x11 2
  | .mencMode3 => encodeK 0x10 3
  | .mdecMode3 => encodeK 0x11 3
  | .subb => encodeN 0x20
  | .invsubb => encodeN 0x21
  | .shrow => encodeN 0x22
  | .invshrow => encodeN 0x23
  | .mixcol => encodeN 0x24
  | .invmixcol => encodeN 0x25
  | .addrk ridx => encodeR 0x26 ridx
  | .gfmul a b => encodeG 0x30 a b
  | .gftab a tsel => encodeT 0x31 a tsel
  | .sbox a => encodeB 0x32 a
  | .invsbox a => encodeB 0x33 a

/-- The command word that the opcode table's `nbits` low bits `w` stand for, the bits above them zero; a command is one
32-bit word (R90), so nothing wider is one. -/
def tableWord (nbits w : Nat) : Option Word :=
  let v := w % 2 ^ nbits
  if v < 2 ^ 32 then some (BitVec.ofNat 32 v) else none

/-- What the decoder reads from a word numbered as spec/opcode_table.json numbers it. -/
def decodeTableWord (nbits w : Nat) : Option Instr :=
  match tableWord nbits w with
  | some v => (decode v).toOption
  | none => none

end Sys2Proof
end

