-- ==== Sys2Proof/Config.lean ====
section
/-! DEFINITION. What the spec leaves open: the free values, and the one open parameter the model consults. None has a body, so
no proof can depend on a particular value of one. -/

namespace Sys2Proof

/-- `any32()` (R12, R125): the value of the n-th draw. The step supplies a fresh n for each draw. -/
opaque Config.draw : Nat → Word

/-- `AES_BASE` (R8, R50): the platform byte address of word index 0. -/
opaque Config.aesBase : Nat

/-- What a round-key word above RK59 would read as. There is none (R25), and no reachable state asks for one (R39; log 9). -/
opaque Config.absentRk : Nat → Word

end Sys2Proof
end

