-- ==== Sys2Proof/Machine/State.lean ====
section
/-! DEFINITION. The state of the block and of the two agents around it, as plain data: every register of R20, the queue of
HOST operations, whose turn is next, the read-data port and the draw counter; the reasons a step can stop; the state
after reset. -/

namespace Sys2Proof.Machine

/-- STATUS.ERRCODE's values (R251). Codes 6..15 are never produced and have no constructor (I9; log 8). -/
inductive ErrCode where
  /-- 0: no error recorded since the last clear. -/
  | noError
  /-- 1: KEYEXP with KLEN = 3. -/
  | unsupportedKeyLength
  /-- 2: MENC or MDEC with MODE = 3. -/
  | unsupportedMode
  /-- 3: a command that needs round keys without a schedule, or ADDRK above NR. -/
  | invalidKeySchedule
  /-- 4: a word that decodes to no command. -/
  | illegalCommand
  /-- 5: a HOST write to a writable index while busy. -/
  | busyWrite
  deriving DecidableEq, Repr

/-- STATUS, field by field (R28). The reserved bits always read 0, so no field holds them (R36). -/
structure Status where
  /-- Bit 0: a command is in flight (R29). -/
  busy : Bool
  /-- Bit 1: RK holds a valid schedule (R30). -/
  kvalid : Bool
  /-- Bit 2: an error was recorded since the last clear (R31). -/
  err : Bool
  /-- Bit 3: a sequence is open (R32). -/
  seq : Bool
  /-- Bits 7:4: the first error since the last clear (R33). -/
  errcode : ErrCode
  /-- Bits 9:8: the KLEN code of the schedule (R34). -/
  klen : BitVec 2
  /-- Bits 15:12: Nr of the schedule (R35). -/
  nr : BitVec 4
  deriving DecidableEq, Repr

/-- A register, or a reserved index, of the window (R51). -/
inductive Reg where
  | cmd
  | status
  | res
  | data (j : Fin 4)
  | iv (j : Fin 4)
  | chain (j : Fin 4)
  | key (j : Fin 8)
  | rk (j : Fin 60)
  | reserved
  deriving DecidableEq, Repr

/-- A register or STATUS field that a command may write at its completion (R124). -/
inductive Dest where
  | data
  | iv
  | chain
  | rk
  | res
  | kvalid
  | klen
  | nr
  | seq
  deriving DecidableEq, Repr

/-- What the HOST puts on the bus (R106), and the polling loop of R107. -/
inductive BusOp where
  /-- RD: MemRead(a, 4). -/
  | rd (a : WindowIndex)
  /-- WR: MemWrite(a, 4, v). -/
  | wr (a : WindowIndex) (v : Word)
  /-- WAIT: read STATUS, and again while bit 0 of the value is 1. -/
  | wait
  deriving DecidableEq, Repr

/-- An operation of the HOST: a bus operation, or a byte-addressed access that a platform adapter turns into one (R50, R55). -/
inductive HostOp where
  | bus (op : BusOp)
  /-- A read of `size` bytes at platform byte address `addr`. -/
  | platformRd (addr size : Nat)
  /-- A write of `size` bytes at platform byte address `addr`. -/
  | platformWr (addr size : Nat) (v : Word)
  deriving DecidableEq, Repr

/-- Whose turn a step is (R9). -/
inductive Agent where
  /-- The HOST performs its next operation. -/
  | host
  /-- The ENGINE completes the command in flight, if there is one. -/
  | engine
  /-- A clock edge with `rst` = 1; with `hostAccess`, the HOST presents its next operation in that cycle (R280, I21). -/
  | reset (hostAccess : Bool)
  deriving DecidableEq, Repr

/-- The machine. The first eight fields are the registers of R20; the last four are the agents' and the ports' (INVENTORY.md). -/
structure State where
  /-- The last accepted command word (R27). -/
  cmd : Word
  /-- R28. -/
  status : Status
  /-- The result byte of the last byte command, in bits 7:0 (R26). -/
  res : Word
  /-- The block being transformed (R21). -/
  data : Group128
  /-- The initialization vector (R22). -/
  iv : Group128
  /-- The chaining state of the open sequence (R23). -/
  chain : Group128
  /-- The raw key (R24). -/
  key : Vector Word 8
  /-- The round-key store (R25). -/
  rk : Vector Word 60
  /-- The HOST's remaining operations, in program order (R62). The model's own field. -/
  program : List HostOp
  /-- Whose turn each coming step is (R9, I7). The model's own field. -/
  schedule : List Agent
  /-- The `bus_rdata` port: the value the last step's HOST read returned, `none` when the last step was no read (D2). -/
  rdata : Option Word
  /-- How many draws have been made (R12). The model's own field. -/
  draws : Nat
  deriving DecidableEq, Repr

/-- Why the model stops although no command told it to. -/
inductive Fault where
  /-- Raised by the HOST's turn when a platform access lies outside the window at AES_BASE: it does not address the block (R50).
  Safe: the model stops where another device would answer. -/
  | outsideWindow (addr : Nat)
  deriving DecidableEq, Repr

/-- Why the model gives a situation no meaning. -/
inductive Refusal where
  /-- Raised by `exec` for an instruction without a meaning; no arm does so. Safe: it stops. -/
  | notModelled (mnemonic : String)
  /-- Raised by the HOST's turn for a platform access inside the window at a byte address that is no AES_BASE + 4a (R55, I8).
  Safe: the spec asks a model to refuse it. -/
  | misalignedAccess (addr : Nat)
  /-- Raised by the HOST's turn for a platform access inside the window that is not 4 bytes long (R54, R55, I8).
  Safe: the spec asks a model to refuse it. -/
  | notOneWordAccess (addr size : Nat)
  deriving DecidableEq, Repr

/-- STATUS after reset: 0x00000000 (R281). -/
def Status.reset : Status :=
  { busy := false, kvalid := false, err := false, seq := false, errcode := .noError, klen := 0, nr := 0 }

/-- The machine right after reset (R281): every register zero. No HOST operation is queued and no turn is fixed (logs 3, 4),
no read is in progress (log 6), and no draw has been made (log 1). -/
def State.reset : State :=
  { cmd := 0, status := Status.reset, res := 0, data := Vector.replicate 4 0, iv := Vector.replicate 4 0,
    chain := Vector.replicate 4 0, key := Vector.replicate 8 0, rk := Vector.replicate 60 0,
    program := [], schedule := [], rdata := none, draws := 0 }

end Sys2Proof.Machine
end

