-- ==== Sys2Proof/Machine/Operands.lean ====
section
/-! DEFINITION. Operand forms: the byte order of words, blocks and round keys (R57 to R60), the key shape a KLEN code names
(R93, R171), the table and coefficient a TSEL names (R98, R153), and the register map of the window (R51). -/

namespace Sys2Proof.Machine

/-! ## Words, blocks and groups -/

/-- Byte k of a word, most significant first: `w[31 - 8*k : 24 - 8*k]` (R57). -/
def lane (w : Word) (k : Nat) : Byte := w.extractLsb' (24 - 8 * k) 8

/-- `{b0, b1, b2, b3}` (R10, R57). -/
def ofLanes (b0 b1 b2 b3 : Byte) : Word := b0 ++ b1 ++ b2 ++ b3

/-- `blk(G)`: `blk(G)[4*j + k] = Gj[31 - 8*k : 24 - 8*k]` (R57). -/
def blk (g : Group128) : Block := Vector.ofFn fun i => lane (g[i.val / 4]) (i.val % 4)

/-- `words(b)j = {b[4*j], b[4*j+1], b[4*j+2], b[4*j+3]}` (R57). -/
def words (b : Block) : Group128 :=
  Vector.ofFn fun j => ofLanes b[4 * j.val] b[4 * j.val + 1] b[4 * j.val + 2] b[4 * j.val + 3]

/-- `b ^ k` on blocks: byte-wise XOR (R13). -/
def xorBlock (b k : Block) : Block := Vector.ofFn fun i => b[i] ^^^ k[i]

/-- The all-zero value of a 128-bit group. -/
def zeroGroup : Group128 := Vector.replicate 4 0

/-- `zext_32` of a byte (R10). -/
def zext32 (b : Byte) : Word := b.setWidth 32

/-! ## Keys and round keys -/

/-- (Nk, Nr) of a KLEN code; 3 names no key length (R93, R171). -/
def keyShape (klen : BitVec 2) : Option (Nat × Nat) :=
  if klen = 0 then some (4, 10) else if klen = 1 then some (6, 12) else if klen = 2 then some (8, 14) else none

/-- The first Nk words of KEY: KEY0..KEY(Nk-1) (R24). -/
def keyWords (key : Vector Word 8) (nk : Nat) : List Word := key.toList.take nk

/-- Word i of the round-key store. The store has words 0..59 (R25); no reachable state names another (R39), and what one would
read as is a free value (log 9). -/
def rkWord (rk : Vector Word 60) (i : Nat) : Word := if h : i < 60 then rk[i] else Config.absentRk i

/-- `rk(r) = blk(RK(4r), RK(4r+1), RK(4r+2), RK(4r+3))` (R60, R175). -/
def roundKey (rk : Vector Word 60) (r : Nat) : Block :=
  blk #v[rkWord rk (4 * r), rkWord rk (4 * r + 1), rkWord rk (4 * r + 2), rkWord rk (4 * r + 3)]

/-! ## GFTAB's table select -/

/-- The coefficient k of a TSEL; 6 and 7 name none (R98, R99). -/
def tableCoefficient (tsel : BitVec 3) : Option Byte :=
  if tsel = 0 then some 2 else if tsel = 1 then some 3 else if tsel = 2 then some 9 else if tsel = 3 then some 11
  else if tsel = 4 then some 13 else if tsel = 5 then some 14 else none

/-- The ROM MULk of a TSEL; 6 and 7 name none (R98, R153). -/
def mulRom (tsel : BitVec 3) : Option ByteRom :=
  if tsel = 0 then some mul2Rom else if tsel = 1 then some mul3Rom else if tsel = 2 then some mul9Rom
  else if tsel = 3 then some mul11Rom else if tsel = 4 then some mul13Rom else if tsel = 5 then some mul14Rom else none

/-! ## The register map -/

/-- The register at word index `n` (R51, R52). -/
def regAtNat (n : Nat) : Reg :=
  if n = 0 then .cmd
  else if n = 1 then .status
  else if n = 2 then .res
  else if n = 3 then .reserved
  else if h : n < 8 then .data ⟨n - 4, by omega⟩
  else if h : n < 12 then .iv ⟨n - 8, by omega⟩
  else if h : n < 16 then .chain ⟨n - 12, by omega⟩
  else if h : n < 24 then .key ⟨n - 16, by omega⟩
  else if n < 64 then .reserved
  else if h : n < 124 then .rk ⟨n - 64, by omega⟩
  else .reserved

/-- The register at a word index of the window (R51). -/
def regAt (a : WindowIndex) : Reg := regAtNat a.toNat

/-- index(reg): the word index a register name stands for (R51, R106); a reserved index has no name. -/
def regIndex : Reg → Option WindowIndex
  | .cmd => some 0
  | .status => some 1
  | .res => some 2
  | .data j => some (BitVec.ofNat 10 (4 + j.val))
  | .iv j => some (BitVec.ofNat 10 (8 + j.val))
  | .chain j => some (BitVec.ofNat 10 (12 + j.val))
  | .key j => some (BitVec.ofNat 10 (16 + j.val))
  | .rk j => some (BitVec.ofNat 10 (64 + j.val))
  | .reserved => none

/-- A HOST write to this register does something while idle: CMD, STATUS, DATA, IV and KEY (R51, R121). -/
def regWritable : Reg → Bool
  | .cmd | .status | .data _ | .iv _ | .key _ => true
  | .res | .chain _ | .rk _ | .reserved => false

end Sys2Proof.Machine
end

