-- ==== Sys2Proof/Machine/Flags.lean ====
section
/-! DEFINITION. STATUS: the word a HOST reads (R28) and every way a field of it changes (R29 to R35, R252, R256). -/

namespace Sys2Proof.Machine

/-- The number of an error code (R251). -/
def ErrCode.code : ErrCode → BitVec 4
  | .noError => 0
  | .unsupportedKeyLength => 1
  | .unsupportedMode => 2
  | .invalidKeySchedule => 3
  | .illegalCommand => 4
  | .busyWrite => 5

/-- The STATUS word: NR in 15:12, KLEN in 9:8, ERRCODE in 7:4, SEQ, ERR, KVALID, BUSY in 3..0, the rest zero (R28). -/
def Status.toWord (t : Status) : Word :=
  0#16 ++ t.nr ++ 0#2 ++ t.klen ++ t.errcode.code ++ BitVec.ofBool t.seq ++ BitVec.ofBool t.err ++ BitVec.ofBool t.kvalid
    ++ BitVec.ofBool t.busy

/-- `record(E)`: the first error since the last clear is kept (R252). -/
def Status.record (e : ErrCode) (t : Status) : Status := if t.err then t else { t with err := true, errcode := e }

/-- The effect of writing 1 to bit 2 while idle (R256). -/
def Status.clearError (t : Status) : Status := { t with err := false, errcode := .noError }

/-- BUSY rises at acceptance (R120). -/
def Status.setBusy (t : Status) : Status := { t with busy := true }

/-- BUSY falls at completion (R122). -/
def Status.clearBusy (t : Status) : Status := { t with busy := false }

/-- SEQ, written by SEQINIT, SEQEND and the implicit start (R32). -/
def Status.setSeq (b : Bool) (t : Status) : Status := { t with seq := b }

/-- The fields a successful KEYEXP writes (R176). -/
def Status.validSchedule (klen : BitVec 2) (nr : Nat) (t : Status) : Status :=
  { t with kvalid := true, klen := klen, nr := BitVec.ofNat 4 nr }

/-- The fields a KEYEXP with KLEN = 3 clears (R177). -/
def Status.noSchedule (t : Status) : Status := { t with kvalid := false, klen := 0, nr := 0 }

/-- The `busy` output port: a level copy of STATUS.BUSY (D2, R258). -/
def State.busyOutput (s : State) : Bool := s.status.busy

end Sys2Proof.Machine
end

