-- ==== Sys2Proof/Machine/Ops.lean ====
section
/-! DEFINITION. The shared operations of the commands: writing a register group, raising an error and clearing it (the
spec's "trap entry" and "trap return", R250, R252, R256), the schedule check, the implicit start of a sequence. -/

namespace Sys2Proof.Machine

/-- What a meaning answers. -/
abbrev Result := Host.Outcome State Fault Refusal

/-! ## Register writes -/

/-- `x[CMD] <- w`. -/
def State.setCmd (w : Word) (s : State) : State := { s with cmd := w }

/-- Replace STATUS. -/
def State.setStatus (t : Status) (s : State) : State := { s with status := t }

/-- `x[RES] <- w`. -/
def State.setRes (w : Word) (s : State) : State := { s with res := w }

/-- `x[DATA] <- g`. -/
def State.setData (g : Group128) (s : State) : State := { s with data := g }

/-- `x[IV] <- g`. -/
def State.setIv (g : Group128) (s : State) : State := { s with iv := g }

/-- `x[CHAIN] <- g`. -/
def State.setChain (g : Group128) (s : State) : State := { s with chain := g }

/-- `x[KEY] <- k`. -/
def State.setKey (k : Vector Word 8) (s : State) : State := { s with key := k }

/-- `x[RK] <- k`. -/
def State.setRk (k : Vector Word 60) (s : State) : State := { s with rk := k }

/-! ## Errors -/

/-- `record(E)` (R252): STATUS.ERR and ERRCODE, unless an error is already recorded. -/
def State.record (e : ErrCode) (s : State) : State := s.setStatus (s.status.record e)

/-- `raise E`: record E and end the command with no further effect (R12, R252, R254). Nothing else happens on entry: no
mode change, no saved state, no jump (R250). -/
def raise (e : ErrCode) (s : State) : Result := .next (s.record e)

/-- The W1C of ERR (R256). Nothing is restored, because recording saved nothing. -/
def State.clearError (s : State) : State := s.setStatus s.status.clearError

/-! ## Checks and shared effects of commands -/

/-- The state check of a command that needs round keys (R253): InvalidKeySchedule when KVALID = 0. -/
def withSchedule (s : State) (effect : Result) : Result :=
  if s.status.kvalid then effect else raise .invalidKeySchedule s

/-- `open_if_needed()` (R222): with SEQ = 0, do what SEQINIT does. -/
def State.openIfNeeded (s : State) : State :=
  if s.status.seq then s else (s.setChain s.iv).setStatus (s.status.setSeq true)

/-- `x[RES] <- zext_32(b)`: the effect of a byte command (R26). -/
def byteResult (b : Byte) (s : State) : Result := .next (s.setRes (zext32 b))

/-- `x[DATA] <- words(f(blk(x[DATA])))`: a command that transforms DATA in place (R21). -/
def transformData (f : Block → Block) (s : State) : Result := .next (s.setData (words (f (blk s.data))))

/-- `x[DATA] <- words(out); x[CHAIN] <- words(next)`: the end of a CBC or CFB command (R225 to R228). -/
def chainResult (out next : Block) (s : State) : Result := .next ((s.setData (words out)).setChain (words next))

end Sys2Proof.Machine
end

