-- ==== Sys2Proof/Machine/Bus.lean ====
section
/-! DEFINITION. The register window as a HOST sees it: what a read returns and a write does, idle and busy (R51 to R56, R120,
R121, R124 to R126), and a platform adapter's byte addresses (R50, R55). -/

namespace Sys2Proof.Machine

/-! ## The destination set of the command in flight -/

/-- The registers and STATUS fields a command may write at completion, ERR and ERRCODE apart (R124). -/
def destSet : Instr → List Dest
  | .nop => []
  | .keyexp _ => [.rk, .kvalid, .klen, .nr]
  | .seqinit => [.chain, .seq]
  | .seqend => [.chain, .iv, .seq]
  | .encblk | .decblk | .mencEcb | .mdecEcb => [.data]
  | .mencCbc | .mencCfb | .mdecCbc | .mdecCfb => [.data, .chain, .seq]
  | .subb | .invsubb | .shrow | .invshrow | .mixcol | .invmixcol | .addrk _ => [.data]
  | .gfmul _ _ | .gftab _ _ | .sbox _ | .invsbox _ => [.res]
  | .mencMode3 | .mdecMode3 => []

/-- The destination set as a function of the command word; empty for a word that raises IllegalCommand (R124). -/
def destSetOfWord (w : Word) : List Dest :=
  match decode w with
  | .ok i => destSet i
  | .error _ => []

/-- A register of the window is in a destination set. STATUS never reads as a draw, whatever fields the set names (R126). -/
def regIn (ds : List Dest) : Reg → Bool
  | .data _ => ds.contains .data
  | .iv _ => ds.contains .iv
  | .chain _ => ds.contains .chain
  | .rk _ => ds.contains .rk
  | .res => ds.contains .res
  | .cmd | .status | .key _ | .reserved => false

/-! ## Reads -/

/-- The value a register holds; a reserved index reads zero (R51, R52). -/
def State.readReg (s : State) : Reg → Word
  | .cmd => s.cmd
  | .status => s.status.toWord
  | .res => s.res
  | .data j => s.data[j]
  | .iv j => s.iv[j]
  | .chain j => s.chain[j]
  | .key j => s.key[j]
  | .rk j => s.rk[j]
  | .reserved => 0

/-- A read now is a draw: a command is in flight and the register is in its destination set (R125). -/
def State.isDraw (s : State) (r : Reg) : Bool := s.status.busy && regIn (destSetOfWord s.cmd) r

/-- The value of `MemRead(a, 4)` (R54, R125, R126). -/
def State.busValue (s : State) (a : WindowIndex) : Word :=
  if s.isDraw (regAt a) then Config.draw s.draws else s.readReg (regAt a)

/-- The step of `MemRead(a, 4)`: no register changes (R56); the value goes to the read-data port, and a draw is used up. -/
def State.busRead (a : WindowIndex) (s : State) : State :=
  { s with rdata := some (s.busValue a), draws := if s.isDraw (regAt a) then s.draws + 1 else s.draws }

/-! ## Writes -/

/-- Acceptance: the word is stored unchecked and BUSY rises (R120). -/
def State.accept (w : Word) (s : State) : State := (s.setCmd w).setStatus s.status.setBusy

/-- A write to a register while idle (R53, R56, R120, R256). -/
def State.writeReg (r : Reg) (v : Word) (s : State) : State :=
  match r with
  | .cmd => s.accept v
  | .status => if v.getLsbD 2 then s.clearError else s
  | .data j => s.setData (s.data.set j v)
  | .iv j => s.setIv (s.iv.set j v)
  | .key j => s.setKey (s.key.set j v)
  | .res | .chain _ | .rk _ | .reserved => s

/-- `MemWrite(a, 4, v)`: while busy a writable index is dropped with BusyWrite and any other is ignored (R121, R255). -/
def State.busWrite (a : WindowIndex) (v : Word) (s : State) : State :=
  if s.status.busy then (if regWritable (regAt a) then s.record .busyWrite else s) else s.writeReg (regAt a) v

/-! ## The HOST's turn -/

/-- What a platform adapter makes of a byte address and a size: AES_BASE + 4a is index a (R50, R55). -/
def platformIndex (addr size : Nat) : Host.Outcome WindowIndex Fault Refusal :=
  if addr < Config.aesBase ∨ Config.aesBase + 4096 ≤ addr then .fault (.outsideWindow addr)
  else if size ≠ 4 then .refused (.notOneWordAccess addr size)
  else if (addr - Config.aesBase) % 4 ≠ 0 then .refused (.misalignedAccess addr)
  else .next (BitVec.ofNat 10 ((addr - Config.aesBase) / 4))

/-- The bus operation that a HOST operation puts on the bus. -/
def HostOp.onBus : HostOp → Host.Outcome BusOp Fault Refusal
  | .bus op => .next op
  | .platformRd addr size =>
    match platformIndex addr size with
    | .next a => .next (.rd a)
    | .fault f => .fault f
    | .refused r => .refused r
  | .platformWr addr size v =>
    match platformIndex addr size with
    | .next a => .next (.wr a v)
    | .fault f => .fault f
    | .refused r => .refused r

/-- The index of STATUS (R51). -/
def statusIndex : WindowIndex := 1

/-- A bus operation with `rest` of the program after it. WAIT reads STATUS and stays while bit 0 of the value is 1 (R107). -/
def BusOp.perform (op : BusOp) (rest : List HostOp) (s : State) : State :=
  match op with
  | .rd a => { s.busRead a with program := rest }
  | .wr a v => { s.busWrite a v with program := rest }
  | .wait => { s.busRead statusIndex with program := if (s.busValue statusIndex).getLsbD 0 then s.program else rest }

/-- The HOST's turn: its next operation (R62). A HOST with nothing left to do leaves the block as it is (R267). -/
def hostTurn (s : State) : Result :=
  match s.program with
  | [] => .next s
  | op :: rest =>
    match op.onBus with
    | .next b => .next (b.perform rest s)
    | .fault f => .fault f
    | .refused r => .refused r

/-! ## Reset -/

/-- The reset step: every register of R20 to zero; a command in flight is abandoned (R280 to R282). -/
def State.resetRegisters (s : State) : State :=
  { s with
    cmd := 0, status := Status.reset, res := 0, data := zeroGroup, iv := zeroGroup, chain := zeroGroup,
    key := Vector.replicate 8 0, rk := Vector.replicate 60 0 }

/-- An access presented in a reset cycle has no effect and reads 0, so a WAIT ends on it (R280, I21). -/
def BusOp.duringReset (op : BusOp) (rest : List HostOp) (s : State) : State :=
  match op with
  | .rd _ | .wait => { s.resetRegisters with program := rest, rdata := some 0 }
  | .wr _ _ => { s.resetRegisters with program := rest }

/-- RESET's turn (R280), with or without an access of the HOST in the same cycle. It always resets (R282): an operation that
reaches no word index is no access of the block and waits for a turn of the HOST (log 12). -/
def resetTurn (hostAccess : Bool) (s : State) : State :=
  if hostAccess then
    match s.program with
    | [] => s.resetRegisters
    | op :: rest =>
      match op.onBus with
      | .next b => b.duringReset rest s
      | .fault _ | .refused _ => s.resetRegisters
  else s.resetRegisters

end Sys2Proof.Machine
end

