-- ==== Sys2Proof/Machine/Bytes.lean ====
section
/-! DEFINITION. The byte commands: GFMUL, GFTAB, SBOX and INVSBOX put one byte into RES (R158 to R161). -/

namespace Sys2Proof.Machine

/-- GFMUL (R158). -/
def execGfmul (a b : Byte) (s : State) : Result := byteResult (gfMul a b) s

/-- GFTAB (R159). TSEL 6 and 7 name no table: IllegalCommand (R101). No word decodes to such a GFTAB. -/
def execGftab (a : Byte) (tsel : BitVec 3) (s : State) : Result :=
  match mulRom tsel with
  | some rom => byteResult (romByte rom a) s
  | none => raise .illegalCommand s

/-- SBOX (R160). -/
def execSbox (a : Byte) (s : State) : Result := byteResult (sbox a) s

/-- INVSBOX (R161). -/
def execInvsbox (a : Byte) (s : State) : Result := byteResult (invSbox a) s

end Sys2Proof.Machine
end

