-- ==== Sys2Proof/Machine/Control.lean ====
section
/-! DEFINITION. NOP and the two sequence commands (R129, R220, R221). -/

namespace Sys2Proof.Machine

/-- NOP: nothing (R129). -/
def execNop (s : State) : Result := .next s

/-- SEQINIT (R220): `x[CHAIN] <- x[IV]; x[STATUS.SEQ] <- 1`. -/
def execSeqinit (s : State) : Result := .next ((s.setChain s.iv).setStatus (s.status.setSeq true))

/-- SEQEND (R221): `x[CHAIN] <- 0; x[IV] <- 0; x[STATUS.SEQ] <- 0`. -/
def execSeqend (s : State) : Result :=
  .next (((s.setChain zeroGroup).setIv zeroGroup).setStatus (s.status.setSeq false))

end Sys2Proof.Machine
end

