-- ==== Sys2Proof/Machine/KeySchedule.lean ====
section
/-! DEFINITION. The key-schedule expander (R170 to R179) and its command KEYEXP. -/

namespace Sys2Proof.Machine

/-- `rot_word(t) = {t[23:0], t[31:24]}` (R172). -/
def rotWord (t : Word) : Word := t.extractLsb' 0 24 ++ t.extractLsb' 24 8

/-- `sub_word(t)`: each byte through the S-box (R173). -/
def subWord (t : Word) : Word :=
  ofLanes (sbox (lane t 0)) (sbox (lane t 1)) (sbox (lane t 2)) (sbox (lane t 3))

/-- `RCON[j] << 24`: the round constant in the most significant byte of a word (R170). -/
def rconWord (j : Nat) : Word := zext32 (rcon j) <<< 24

/-- The word XORed with w[i-Nk]: `temp` after the two branches of R174. -/
def scheduleTemp (nk i : Nat) (prev : Word) : Word :=
  if i % nk = 0 then subWord (rotWord prev) ^^^ rconWord (i / nk - 1)
  else if nk > 6 ∧ i % nk = 4 then subWord prev
  else prev

/-- One iteration of R174's loop at index i = the number of words so far: append w[i]. -/
def expandStep (nk : Nat) (w : List Word) : List Word :=
  w ++ [w.getD (w.length - nk) 0 ^^^ scheduleTemp nk w.length (w.getD (w.length - 1) 0)]

/-- `n` iterations of R174's loop. -/
def expandLoop (nk : Nat) : Nat → List Word → List Word
  | 0, w => w
  | n + 1, w => expandLoop nk n (expandStep nk w)

/-- `expand(w[0..Nk-1], Nk, Nr)`: the words w[0 .. 4*(Nr+1)-1] (R174). -/
def expand (w : List Word) (nk nr : Nat) : List Word := expandLoop nk (4 * (nr + 1) - nk) w

/-- RK after a successful KEYEXP: the schedule's words, and zero above them (R176). -/
def rkOfWords (w : List Word) : Vector Word 60 := Vector.ofFn fun i => w.getD i.val 0

/-- RK after a failed KEYEXP: all 60 words zero (R177). -/
def rkZero : Vector Word 60 := Vector.replicate 60 0

/-- KEYEXP (R176; R177 for KLEN = 3, the one failing command that clears state, R254). -/
def execKeyexp (klen : BitVec 2) (s : State) : Result :=
  match keyShape klen with
  | some (nk, nr) =>
    .next ((s.setRk (rkOfWords (expand (keyWords s.key nk) nk nr))).setStatus (s.status.validSchedule klen nr))
  | none => raise .unsupportedKeyLength ((s.setRk rkZero).setStatus s.status.noSchedule)

end Sys2Proof.Machine
end

