-- ==== Sys2Proof/Machine/Round.lean ====
section
/-! DEFINITION. The round-transform engine: the elementary functions and their inverses (R190 to R196), the full block
transforms (R197, R198), and the commands that run them (R200 to R208). Throughout, byte 4*c + r of a block is row r,
column c of its state matrix (R13). -/

namespace Sys2Proof.Machine

/-! ## Elementary functions -/

/-- `sub_bytes` (R190). -/
def subBytes (b : Block) : Block := Vector.ofFn fun i => sbox b[i]

/-- `inv_sub_bytes` (R191). -/
def invSubBytes (b : Block) : Block := Vector.ofFn fun i => invSbox b[i]

/-- `shift_rows`: `s[r][c]` becomes `s[r][(c + r) mod 4]` (R192). -/
def shiftRows (b : Block) : Block :=
  Vector.ofFn fun i => b[4 * ((i.val / 4 + i.val % 4) % 4) + i.val % 4]

/-- `inv_shift_rows`: `s[r][c]` becomes `s[r][(c - r) mod 4]` (R193). -/
def invShiftRows (b : Block) : Block :=
  Vector.ofFn fun i => b[4 * ((i.val / 4 + 4 - i.val % 4) % 4) + i.val % 4]

/-- One column of MixColumns (R194). -/
def mixColumn (a b c d : Byte) : Vector Byte 4 :=
  #v[gfMul 2 a ^^^ gfMul 3 b ^^^ c ^^^ d,
     a ^^^ gfMul 2 b ^^^ gfMul 3 c ^^^ d,
     a ^^^ b ^^^ gfMul 2 c ^^^ gfMul 3 d,
     gfMul 3 a ^^^ b ^^^ c ^^^ gfMul 2 d]

/-- One column of InvMixColumns (R195). -/
def invMixColumn (a b c d : Byte) : Vector Byte 4 :=
  #v[gfMul 14 a ^^^ gfMul 11 b ^^^ gfMul 13 c ^^^ gfMul 9 d,
     gfMul 9 a ^^^ gfMul 14 b ^^^ gfMul 11 c ^^^ gfMul 13 d,
     gfMul 13 a ^^^ gfMul 9 b ^^^ gfMul 14 c ^^^ gfMul 11 d,
     gfMul 11 a ^^^ gfMul 13 b ^^^ gfMul 9 c ^^^ gfMul 14 d]

/-- Apply a column function to each of the four columns. -/
def onColumns (f : Byte → Byte → Byte → Byte → Vector Byte 4) (b : Block) : Block :=
  Vector.ofFn fun i =>
    (f b[4 * (i.val / 4)] b[4 * (i.val / 4) + 1] b[4 * (i.val / 4) + 2] b[4 * (i.val / 4) + 3])[i.val % 4]

/-- `mix_columns` (R194). -/
def mixColumns (b : Block) : Block := onColumns mixColumn b

/-- `inv_mix_columns` (R195). -/
def invMixColumns (b : Block) : Block := onColumns invMixColumn b

/-- `add_round_key` (R196). -/
def addRoundKey (b k : Block) : Block := xorBlock b k

/-! ## Full block transforms -/

/-- A middle round of the cipher with round key `k` (R197). -/
def cipherRound (k s : Block) : Block := addRoundKey (mixColumns (shiftRows (subBytes s))) k

/-- The final round of the cipher: no MixColumns (R197). -/
def cipherFinal (k s : Block) : Block := addRoundKey (shiftRows (subBytes s)) k

/-- A middle round of the inverse cipher: AddRoundKey before InvMixColumns (R198). -/
def invCipherRound (k s : Block) : Block := invMixColumns (addRoundKey (invSubBytes (invShiftRows s)) k)

/-- The final round of the inverse cipher (R198). -/
def invCipherFinal (k s : Block) : Block := addRoundKey (invSubBytes (invShiftRows s)) k

/-- The cipher after the initial AddRoundKey and the middle rounds 1..n (R197). -/
def cipherRounds (rk : Vector Word 60) (b : Block) : Nat → Block
  | 0 => addRoundKey b (roundKey rk 0)
  | n + 1 => cipherRound (roundKey rk (n + 1)) (cipherRounds rk b n)

/-- The middle rounds n, n-1, .., 1 of the inverse cipher (R198). -/
def invCipherRounds (rk : Vector Word 60) : Nat → Block → Block
  | 0, s => s
  | n + 1, s => invCipherRounds rk n (invCipherRound (roundKey rk (n + 1)) s)

/-- `cipher(b, Nr)` (R197). -/
def cipher (rk : Vector Word 60) (nr : Nat) (b : Block) : Block :=
  cipherFinal (roundKey rk nr) (cipherRounds rk b (nr - 1))

/-- `inv_cipher(b, Nr)` (R198). -/
def invCipher (rk : Vector Word 60) (nr : Nat) (b : Block) : Block :=
  invCipherFinal (roundKey rk 0) (invCipherRounds rk (nr - 1) (addRoundKey b (roundKey rk nr)))

/-- `E(b) = cipher(b, x[STATUS.NR])` under the schedule in RK (44_modes.md). -/
def State.encryptBlock (s : State) (b : Block) : Block := cipher s.rk s.status.nr.toNat b

/-- `D(b) = inv_cipher(b, x[STATUS.NR])` under the schedule in RK (44_modes.md). -/
def State.decryptBlock (s : State) (b : Block) : Block := invCipher s.rk s.status.nr.toNat b

/-! ## Elementary commands -/

/-- SUBB (R200). -/
def execSubb (s : State) : Result := transformData subBytes s

/-- INVSUBB (R201). -/
def execInvsubb (s : State) : Result := transformData invSubBytes s

/-- SHROW (R202). -/
def execShrow (s : State) : Result := transformData shiftRows s

/-- INVSHROW (R203). -/
def execInvshrow (s : State) : Result := transformData invShiftRows s

/-- MIXCOL (R204). -/
def execMixcol (s : State) : Result := transformData mixColumns s

/-- INVMIXCOL (R205). -/
def execInvmixcol (s : State) : Result := transformData invMixColumns s

/-- ADDRK (R206): the two state checks, then AddRoundKey with round key RIDX. -/
def execAddrk (ridx : BitVec 4) (s : State) : Result :=
  withSchedule s
    (if ridx.toNat ≤ s.status.nr.toNat then transformData (fun b => addRoundKey b (roundKey s.rk ridx.toNat)) s
     else raise .invalidKeySchedule s)

/-! ## Block commands -/

/-- ENCBLK (R207). -/
def execEncblk (s : State) : Result := withSchedule s (transformData s.encryptBlock s)

/-- DECBLK (R208). -/
def execDecblk (s : State) : Result := withSchedule s (transformData s.decryptBlock s)

end Sys2Proof.Machine
end

