-- ==== Sys2Proof/Machine/Modes.lean ====
section
/-! DEFINITION. The chaining-mode commands: ECB, CBC and CFB in both directions (R222 to R228) and the two words of the
reserved mode (R229). A CBC or CFB command opens the sequence after its schedule check and before anything else. -/

namespace Sys2Proof.Machine

/-- MENC.ECB (R223). -/
def execMencEcb (s : State) : Result := withSchedule s (transformData s.encryptBlock s)

/-- MDEC.ECB (R224). -/
def execMdecEcb (s : State) : Result := withSchedule s (transformData s.decryptBlock s)

/-- `c <- E(blk(x[DATA]) ^ blk(x[CHAIN]))` into DATA and CHAIN (R225). -/
def cbcEncrypt (s : State) : Result :=
  let c := s.encryptBlock (xorBlock (blk s.data) (blk s.chain))
  chainResult c c s

/-- `p <- D(c) ^ blk(x[CHAIN])` into DATA, the consumed ciphertext `c` into CHAIN (R226). -/
def cbcDecrypt (s : State) : Result :=
  let c := blk s.data
  chainResult (xorBlock (s.decryptBlock c) (blk s.chain)) c s

/-- `c <- blk(x[DATA]) ^ E(blk(x[CHAIN]))` into DATA and CHAIN (R227). -/
def cfbEncrypt (s : State) : Result :=
  let c := xorBlock (blk s.data) (s.encryptBlock (blk s.chain))
  chainResult c c s

/-- `c ^ E(blk(x[CHAIN]))` into DATA, the consumed ciphertext `c` into CHAIN; never the inverse cipher (R228). -/
def cfbDecrypt (s : State) : Result :=
  let c := blk s.data
  chainResult (xorBlock c (s.encryptBlock (blk s.chain))) c s

/-- MENC.CBC (R225). -/
def execMencCbc (s : State) : Result := withSchedule s (cbcEncrypt s.openIfNeeded)

/-- MDEC.CBC (R226). -/
def execMdecCbc (s : State) : Result := withSchedule s (cbcDecrypt s.openIfNeeded)

/-- MENC.CFB (R227). -/
def execMencCfb (s : State) : Result := withSchedule s (cfbEncrypt s.openIfNeeded)

/-- MDEC.CFB (R228). -/
def execMdecCfb (s : State) : Result := withSchedule s (cfbDecrypt s.openIfNeeded)

/-- MENC with MODE = 3 (R229): UnsupportedMode whatever the schedule (R253). -/
def execMencMode3 (s : State) : Result := raise .unsupportedMode s

/-- MDEC with MODE = 3 (R229). -/
def execMdecMode3 (s : State) : Result := raise .unsupportedMode s

end Sys2Proof.Machine
end

