-- ==== Sys2Proof/Machine/Dispatch.lean ====
section
/-! DEFINITION. The effect of each command in its completion step: the body of `execute` after decoding (R123). BUSY's fall
is the step's (R122; Machine/Engine.lean). -/

namespace Sys2Proof.Machine

def exec (i : Instr) (s : State) : Host.Outcome State Fault Refusal :=
  match i with
  | .nop => Sys2Proof.Machine.execNop s
  | .keyexp klen => Sys2Proof.Machine.execKeyexp klen s
  | .seqinit => Sys2Proof.Machine.execSeqinit s
  | .seqend => Sys2Proof.Machine.execSeqend s
  | .encblk => Sys2Proof.Machine.execEncblk s
  | .decblk => Sys2Proof.Machine.execDecblk s
  | .mencEcb => Sys2Proof.Machine.execMencEcb s
  | .mdecEcb => Sys2Proof.Machine.execMdecEcb s
  | .mencCbc => Sys2Proof.Machine.execMencCbc s
  | .mdecCbc => Sys2Proof.Machine.execMdecCbc s
  | .mencCfb => Sys2Proof.Machine.execMencCfb s
  | .mdecCfb => Sys2Proof.Machine.execMdecCfb s
  | .mencMode3 => Sys2Proof.Machine.execMencMode3 s
  | .mdecMode3 => Sys2Proof.Machine.execMdecMode3 s
  | .subb => Sys2Proof.Machine.execSubb s
  | .invsubb => Sys2Proof.Machine.execInvsubb s
  | .shrow => Sys2Proof.Machine.execShrow s
  | .invshrow => Sys2Proof.Machine.execInvshrow s
  | .mixcol => Sys2Proof.Machine.execMixcol s
  | .invmixcol => Sys2Proof.Machine.execInvmixcol s
  | .addrk ridx => Sys2Proof.Machine.execAddrk ridx s
  | .gfmul a b => Sys2Proof.Machine.execGfmul a b s
  | .gftab a tsel => Sys2Proof.Machine.execGftab a tsel s
  | .sbox a => Sys2Proof.Machine.execSbox a s
  | .invsbox a => Sys2Proof.Machine.execInvsbox a s

end Sys2Proof.Machine
end

