-- ==== Sys2Proof/Machine/Engine.lean ====
section
/-! DEFINITION. The ENGINE's turn: the completion step of the command in flight (R122, R123). -/

namespace Sys2Proof.Machine

/-- BUSY falls (R122). -/
def State.endCommand (s : State) : State := s.setStatus s.status.clearBusy

/-- `execute(w)` (R123): decode, then the command's own checks and effect; a word that decodes to no command raises
IllegalCommand and changes nothing else (R101, R254). -/
def execute (w : Word) (s : State) : Result :=
  match decode w with
  | .ok i => exec i s
  | .error _ => raise .illegalCommand s

/-- `complete()` (R122). -/
def complete (s : State) : Result :=
  match execute s.cmd s with
  | .next t => .next t.endCommand
  | .fault f => .fault f
  | .refused r => .refused r

/-- The ENGINE's turn: enabled exactly when BUSY = 1; otherwise nothing happens (R122). -/
def engineTurn (s : State) : Result := if s.status.busy then complete s else .next s

/-- One turn of an agent (R9). -/
def turn (a : Agent) (s : State) : Result :=
  match a with
  | .host => hostTurn s
  | .engine => engineTurn s
  | .reset hostAccess => .next (resetTurn hostAccess s)

/-- Whose turn it is: the schedule's first entry; when it is empty, the ENGINE's while a command is in flight, else the
HOST's (R128; log 4). -/
def State.nextAgent (s : State) : Agent :=
  match s.schedule with
  | a :: _ => a
  | [] => if s.status.busy then .engine else .host

/-- The state in which a turn begins: its entry is off the schedule and the read-data port shows nothing yet (D2). -/
def State.beginTurn (s : State) : State := { s with schedule := s.schedule.tail, rdata := none }

/-- The command word `v` in flight with the ENGINE's turn next. -/
def State.inFlight (v : Word) (s : State) : State :=
  { s.accept v with schedule := .engine :: s.schedule }

end Sys2Proof.Machine
end

