-- ==== Sys2Proof/Machine/Step.lean ====
section
/-! DEFINITION. One step: one turn of one agent (R9). -/

namespace Sys2Proof.Machine

/-- The step: the agent whose turn it is takes it. -/
def step (s : State) : Host.Outcome State Fault Refusal := turn s.nextAgent s.beginTurn

/-- The state in which the next step completes the command whose word is `w` (R120, R122): the word is in CMD, BUSY is 1 and
the ENGINE has the turn. A word wider than a command word is none, and nothing changes (log 3). -/
def State.withFetchWord (s : State) (nbits w : Nat) : State :=
  match tableWord nbits w with
  | some v => s.inFlight v
  | none => s

end Sys2Proof.Machine
end

