-- ==== Sys2Proof/Machine/HostProgram.lean ====
section
/-! DEFINITION. The HOST's language: assembler lines and the words they assemble to (R105), host-program lines (R106) and the
pseudo-instructions with their expansions into bus operations (R107). -/

namespace Sys2Proof.Machine

/-- K128, K192, K256 (R105). -/
inductive KeyName where
  | k128
  | k192
  | k256
  deriving DecidableEq, Repr

/-- ECB, CBC, CFB (R105). -/
inductive ModeName where
  | ecb
  | cbc
  | cfb
  deriving DecidableEq, Repr

/-- X2, X3, X9, X11, X13, X14 (R105). -/
inductive TableName where
  | x2
  | x3
  | x9
  | x11
  | x13
  | x14
  deriving DecidableEq, Repr

/-- A command line. Numeric operands are whatever number the line writes; the assembler checks that they fit (R105). -/
inductive AsmLine where
  | nop
  | keyexp (k : KeyName)
  | seqinit
  | seqend
  | encblk
  | decblk
  | menc (m : ModeName)
  | mdec (m : ModeName)
  | subb
  | invsubb
  | shrow
  | invshrow
  | mixcol
  | invmixcol
  | addrk (r : Nat)
  | gfmul (a b : Nat)
  | gftab (a : Nat) (t : TableName)
  | sbox (a : Nat)
  | invsbox (a : Nat)
  /-- `.CMDWORD <w>`: any 32-bit word. -/
  | cmdword (w : Nat)
  deriving DecidableEq, Repr

/-- KLEN of a key name (R105). -/
def KeyName.klen : KeyName → Nat
  | .k128 => 0
  | .k192 => 1
  | .k256 => 2

/-- MODE of a mode name (R105). -/
def ModeName.mode : ModeName → Nat
  | .ecb => 0
  | .cbc => 1
  | .cfb => 2

/-- TSEL of a table name (R105). -/
def TableName.tsel : TableName → Nat
  | .x2 => 0
  | .x3 => 1
  | .x9 => 2
  | .x11 => 3
  | .x13 => 4
  | .x14 => 5

/-- `n` when it is at most `bound`; the assembler refuses an operand that does not fit its field (R105). -/
def fits (bound n : Nat) : Option Nat := if n ≤ bound then some n else none

/-- The number a line assembles to (R105). -/
def AsmLine.number : AsmLine → Option Nat
  | .nop => some 0x00000000
  | .keyexp k => some (0x00000001 ||| k.klen <<< 8)
  | .seqinit => some 0x00000002
  | .seqend => some 0x00000003
  | .encblk => some 0x00000008
  | .decblk => some 0x00000009
  | .menc m => some (0x00000010 ||| m.mode <<< 8)
  | .mdec m => some (0x00000011 ||| m.mode <<< 8)
  | .subb => some 0x00000020
  | .invsubb => some 0x00000021
  | .shrow => some 0x00000022
  | .invshrow => some 0x00000023
  | .mixcol => some 0x00000024
  | .invmixcol => some 0x00000025
  | .addrk r => (fits 15 r).map fun r => 0x00000026 ||| r <<< 8
  | .gfmul a b => (fits 255 a).bind fun a => (fits 255 b).map fun b => 0x00000030 ||| a <<< 8 ||| b <<< 16
  | .gftab a t => (fits 255 a).map fun a => 0x00000031 ||| a <<< 8 ||| t.tsel <<< 16
  | .sbox a => (fits 255 a).map fun a => 0x00000032 ||| a <<< 8
  | .invsbox a => (fits 255 a).map fun a => 0x00000033 ||| a <<< 8
  | .cmdword w => fits 0xFFFFFFFF w

/-- The word a line assembles to; `none` where the assembler refuses it (R105). -/
def AsmLine.assemble (l : AsmLine) : Option Word := l.number.map (BitVec.ofNat 32)

/-- A line of a host program (R106, R107). -/
inductive HostLine where
  /-- `WR <reg>, <imm32>`. -/
  | wr (reg : Reg) (v : Word)
  /-- `RD <reg>`. -/
  | rd (reg : Reg)
  /-- `<command>`. -/
  | command (l : AsmLine)
  /-- `WAIT`. -/
  | wait
  /-- `EXEC <command>`. -/
  | exec (l : AsmLine)
  /-- `LDKEY w0, ..., w(n-1)`, n = 1..8. -/
  | ldkey (ws : List Word)
  /-- `LDBLK <hex32 bytes>`. -/
  | ldblk (b : Block)
  /-- `LDIV <hex32 bytes>`. -/
  | ldiv (b : Block)
  /-- `RDBLK`. -/
  | rdblk
  /-- `CLRERR`. -/
  | clrerr
  deriving DecidableEq, Repr

/-- A write of `v` to word index `n`. -/
def wrAt (n : Nat) (v : Word) : HostOp := .bus (.wr (BitVec.ofNat 10 n) v)

/-- A read of word index `n`. -/
def rdAt (n : Nat) : HostOp := .bus (.rd (BitVec.ofNat 10 n))

/-- Writes of consecutive words from word index `n` up. -/
def writesFrom : Nat → List Word → List HostOp
  | _, [] => []
  | n, w :: ws => wrAt n w :: writesFrom (n + 1) ws

/-- `WR CMD, <word of rule R105>` (R106). -/
def issue (l : AsmLine) : Option (List HostOp) := l.assemble.map fun w => [wrAt 0 w]

/-- The bus operations of a line; `none` for a line the syntax does not allow (R106, R107). -/
def HostLine.expand : HostLine → Option (List HostOp)
  | .wr reg v => (regIndex reg).map fun a => [.bus (.wr a v)]
  | .rd reg => (regIndex reg).map fun a => [.bus (.rd a)]
  | .command l => issue l
  | .wait => some [.bus .wait]
  | .exec l => (issue l).map (· ++ [.bus .wait])
  | .ldkey ws => if 1 ≤ ws.length ∧ ws.length ≤ 8 then some (writesFrom 16 ws) else none
  | .ldblk b => some (writesFrom 4 (words b).toList)
  | .ldiv b => some (writesFrom 8 (words b).toList)
  | .rdblk => some [rdAt 4, rdAt 5, rdAt 6, rdAt 7]
  | .clrerr => some [wrAt 1 0x00000004]

/-- The bus operations of a whole host program, line by line in program order (R62). -/
def expandProgram : List HostLine → Option (List HostOp)
  | [] => some []
  | l :: ls => l.expand.bind fun ops => (expandProgram ls).map fun more => ops ++ more

/-- The HOST given a program to run, with the turns of the other agents fixed by `schedule` (log 3). -/
def State.withProgram (ops : List HostOp) (schedule : List Agent) (s : State) : State :=
  { s with program := ops, schedule := schedule }

end Sys2Proof.Machine
end

