-- ==== Sys2Proof/Safety.lean ====
section
/-! DEFINITION. The terms the statements use: the invariants of R39, the window as one list of words, the state matrix of a
register group, the destination sets as index ranges, the opcode map as rows, running several commands in a row. Each is
written from the spec again and not from the machine's own operations, so that a statement relates two readings. -/

namespace Sys2Proof.Machine

/-! ## Invariants (R39) -/

/-- KVALID = 1: KLEN and NR are a pair of R93 and the RK words above 4*(NR+1) - 1 are zero.
KVALID = 0: KLEN, NR and all of RK are zero. -/
abbrev State.ScheduleInv (s : State) : Prop :=
  (s.status.kvalid = true →
    ((s.status.klen = 0 ∧ s.status.nr = 10) ∨ (s.status.klen = 1 ∧ s.status.nr = 12) ∨
      (s.status.klen = 2 ∧ s.status.nr = 14)) ∧
    ∀ i : Fin 60, 4 * (s.status.nr.toNat + 1) ≤ i.val → s.rk[i] = 0) ∧
  (s.status.kvalid = false → s.status.klen = 0 ∧ s.status.nr = 0 ∧ ∀ i : Fin 60, s.rk[i] = 0)

/-- SEQ = 0: CHAIN is zero. -/
abbrev State.SequenceInv (s : State) : Prop := s.status.seq = false → ∀ j : Fin 4, s.chain[j] = 0

/-- ERR = 0 with ERRCODE = 0, or ERR = 1 with ERRCODE in 1..5. -/
abbrev State.ErrorInv (s : State) : Prop :=
  (s.status.err = false → s.status.errcode.code = 0) ∧
  (s.status.err = true → 1 ≤ s.status.errcode.code.toNat ∧ s.status.errcode.code.toNat ≤ 5)

/-- RES bits 31:8 read zero (R26). -/
abbrev State.ResultInv (s : State) : Prop := s.res.extractLsb' 8 24 = 0

/-- What holds in every reachable state. -/
abbrev State.Inv (s : State) : Prop := s.ScheduleInv ∧ s.SequenceInv ∧ s.ErrorInv ∧ s.ResultInv

/-! ## The window (R51) -/

/-- The 1024 words of the window in index order, reserved indices as zero (R51, R52). -/
def State.windowWords (s : State) : List Word :=
  [s.cmd, s.status.toWord, s.res, 0] ++ s.data.toList ++ s.iv.toList ++ s.chain.toList ++ s.key.toList
    ++ List.replicate 40 0 ++ s.rk.toList ++ List.replicate 900 0

/-- Word index `n` is in the destination set of a command (R124), by the index ranges of R51. STATUS is index 1 and in none. -/
def drawnIndex (i : Instr) (n : Nat) : Bool :=
  let data := decide (4 ≤ n ∧ n ≤ 7)
  let iv := decide (8 ≤ n ∧ n ≤ 11)
  let chain := decide (12 ≤ n ∧ n ≤ 15)
  let rk := decide (64 ≤ n ∧ n ≤ 123)
  let res := decide (n = 2)
  match i with
  | .nop | .mencMode3 | .mdecMode3 => false
  | .keyexp _ => rk
  | .seqinit => chain
  | .seqend => chain || iv
  | .encblk | .decblk | .mencEcb | .mdecEcb => data
  | .mencCbc | .mencCfb | .mdecCbc | .mdecCfb => data || chain
  | .subb | .invsubb | .shrow | .invshrow | .mixcol | .invmixcol | .addrk _ => data
  | .gfmul _ _ | .gftab _ _ | .sbox _ | .invsbox _ => res

/-! ## The state matrix in register terms (R58) -/

/-- `s[r][c] = Gc[31 - 8*r : 24 - 8*r]` (R58). -/
def cell (g : Group128) (r c : Fin 4) : Byte := (g[c]).extractLsb' (24 - 8 * r.val) 8

/-- XOR of two groups, word by word. -/
def xorGroup (g h : Group128) : Group128 := Vector.ofFn fun j => g[j] ^^^ h[j]

/-! ## The opcode map (R100) -/

/-- A row of R100: `w` matches it when `w & mask = match`. -/
structure OpcodeRow where
  bits : Word
  mask : Word
  deriving DecidableEq, Repr

/-- The match and mask columns of R100, in its order. -/
def opcodeRows : List OpcodeRow :=
  [⟨0x00000000, 0xFFFFFFFF⟩, ⟨0x00000001, 0xFFFFFCFF⟩, ⟨0x00000002, 0xFFFFFFFF⟩, ⟨0x00000003, 0xFFFFFFFF⟩,
   ⟨0x00000008, 0xFFFFFFFF⟩, ⟨0x00000009, 0xFFFFFFFF⟩, ⟨0x00000010, 0xFFFFFFFF⟩, ⟨0x00000110, 0xFFFFFFFF⟩,
   ⟨0x00000210, 0xFFFFFFFF⟩, ⟨0x00000310, 0xFFFFFFFF⟩, ⟨0x00000011, 0xFFFFFFFF⟩, ⟨0x00000111, 0xFFFFFFFF⟩,
   ⟨0x00000211, 0xFFFFFFFF⟩, ⟨0x00000311, 0xFFFFFFFF⟩, ⟨0x00000020, 0xFFFFFFFF⟩, ⟨0x00000021, 0xFFFFFFFF⟩,
   ⟨0x00000022, 0xFFFFFFFF⟩, ⟨0x00000023, 0xFFFFFFFF⟩, ⟨0x00000024, 0xFFFFFFFF⟩, ⟨0x00000025, 0xFFFFFFFF⟩,
   ⟨0x00000026, 0xFFFFF0FF⟩, ⟨0x00000030, 0xFF0000FF⟩, ⟨0x00000031, 0xFFF800FF⟩, ⟨0x00000032, 0xFFFF00FF⟩,
   ⟨0x00000033, 0xFFFF00FF⟩]

/-! ## Several commands in a row -/

/-- The effects of a list of commands, one after the other, on a state between commands. -/
def runCommands : List Instr → State → Result
  | [], s => .next s
  | i :: is, s =>
    match exec i s with
    | .next t => runCommands is t
    | .fault f => .fault f
    | .refused r => .refused r

/-- The elementary commands of an encryption with Nr rounds (R197, vector D11). -/
def cipherCommands (nr : Nat) : List Instr :=
  [.addrk 0]
    ++ (List.range' 1 (nr - 1)).flatMap (fun r => [.subb, .shrow, .mixcol, .addrk (BitVec.ofNat 4 r)])
    ++ [.subb, .shrow, .addrk (BitVec.ofNat 4 nr)]

/-- The elementary commands of a decryption with Nr rounds (R198, vector D11). -/
def invCipherCommands (nr : Nat) : List Instr :=
  [.addrk (BitVec.ofNat 4 nr)]
    ++ (List.range' 1 (nr - 1)).reverse.flatMap (fun r => [.invshrow, .invsubb, .addrk (BitVec.ofNat 4 r), .invmixcol])
    ++ [.invshrow, .invsubb, .addrk 0]

/-- A sequence: for each block in turn, put it into DATA, run the command, take DATA as the output (R230, R295). Answers the
output blocks and the state after the last block; `none` if a command does not complete. -/
def runBlocks (i : Instr) : List Group128 → State → Option (List Group128 × State)
  | [], s => some ([], s)
  | b :: bs, s =>
    match exec i { s with data := b } with
    | .next t => (runBlocks i bs t).map fun (out, u) => (t.data :: out, u)
    | .fault _ | .refused _ => none

/-- The chaining value a CBC or CFB command starts from: CHAIN in an open sequence, else IV (R222). -/
def State.chainingValue (s : State) : Group128 := if s.status.seq then s.chain else s.iv

/-- `E` on register groups: the cipher under RK and NR. -/
def State.encryptGroup (s : State) (g : Group128) : Group128 := words (s.encryptBlock (blk g))

/-- `D` on register groups: the inverse cipher under RK and NR. -/
def State.decryptGroup (s : State) (g : Group128) : Group128 := words (s.decryptBlock (blk g))

/-- Two states that differ at most in STATUS.ERR and ERRCODE. -/
def State.sameButErrors (s t : State) : Prop :=
  t = { s with status := { s.status with err := t.status.err, errcode := t.status.errcode } }

/-! ## Who acts in the next step -/

/-- The next step is a reset. -/
def State.resets (s : State) : Prop := ∃ a, s.nextAgent = .reset a

/-- The next step is the completion of a command for which `p` holds. -/
def State.completes (s : State) (p : Instr → Bool) : Prop :=
  s.nextAgent = .engine ∧ s.status.busy = true ∧ ∃ i, decode s.cmd = .ok i ∧ p i = true

/-- The next step is a HOST write at index `a` of some value `v`, itself or through a platform adapter. -/
def State.hostWrites (s : State) (a : WindowIndex) (v : Word) : Prop :=
  s.nextAgent = .host ∧ ∃ op rest, s.program = op :: rest ∧ op.onBus = .next (.wr a v)

/-- Word index `n` is writable by the HOST (R121). -/
def writableIndex (n : Nat) : Bool := decide (n ≤ 1 ∨ (4 ≤ n ∧ n ≤ 11) ∨ (16 ≤ n ∧ n ≤ 23))

/-- An operation the HOST puts on the bus itself, with no platform adapter. -/
def HostOp.isBus : HostOp → Bool
  | .bus _ => true
  | .platformRd _ _ | .platformWr _ _ _ => false

end Sys2Proof.Machine
end

