-- ==== Sys2Proof/Certificates/Slice0/Obligations.lean ====
section
/-! DEFINITION. The statements for the provers. Each docstring names the rule it formalises. -/

open Sys2Proof Sys2Proof.Machine

/-! ## Encoding -/

/-- R90 to R101: decoding the word of any well-formed command, with any operands, gives the command back. -/
def Obligations.DecodeOfEncodeIsTheCommand : Prop :=
  ∀ i : Instr, i.wellFormed = true → decode (encode i) = .ok i

/-- R90 to R101: a word that decodes is the word of what it decodes to, so no bit of a legal word is ignored. -/
def Obligations.EncodeOfDecodeIsTheWord : Prop :=
  ∀ (w : Word) (i : Instr), decode w = .ok i → encode i = w ∧ i.wellFormed = true

/-- R100, R101: the legal words are exactly those that match a row of the opcode map, GFTAB's reserved TSEL values apart. -/
def Obligations.LegalWordsAreTheRowsOfTheOpcodeMap : Prop :=
  ∀ w : Word, (∃ i, decode w = .ok i) ↔
    (∃ r ∈ opcodeRows, w &&& r.mask = r.bits) ∧
    ¬ (w.extractLsb' 0 8 = 0x31#8 ∧ 5 < (w.extractLsb' 16 3).toNat)

/-- R100, R105: words written out from the formats decode to the commands they stand for, one or more of each family. -/
def Obligations.WrittenOutWordsDecode : Prop :=
  decode 0x00000000 = .ok .nop ∧ decode 0x00000201 = .ok (.keyexp 2) ∧ decode 0x00000301 = .ok (.keyexp 3) ∧
  decode 0x00000002 = .ok .seqinit ∧ decode 0x00000009 = .ok .decblk ∧ decode 0x00000110 = .ok .mencCbc ∧
  decode 0x00000211 = .ok .mdecCfb ∧ decode 0x00000310 = .ok .mencMode3 ∧ decode 0x00000023 = .ok .invshrow ∧
  decode 0x00000A26 = .ok (.addrk 10) ∧ decode 0x00835730 = .ok (.gfmul 0x57 0x83) ∧
  decode 0x00055731 = .ok (.gftab 0x57 5) ∧ decode 0x0000ED33 = .ok (.invsbox 0xED) ∧
  decode 0x00000004 = .error .undefinedOpcode ∧ decode 0x80000008 = .error .reservedBitSet ∧
  decode 0x00060031 = .error .reservedTable

/-- R105: every line assembles to the word of its command, and an operand that does not fit its field is refused. A line is data
here, not characters (log 15). -/
def Obligations.AssembledLinesAreTheirCommands : Prop :=
  AsmLine.nop.assemble = some (encode .nop) ∧
  (AsmLine.keyexp .k128).assemble = some (encode (.keyexp 0)) ∧
  (AsmLine.keyexp .k192).assemble = some (encode (.keyexp 1)) ∧
  (AsmLine.keyexp .k256).assemble = some (encode (.keyexp 2)) ∧
  AsmLine.seqinit.assemble = some (encode .seqinit) ∧ AsmLine.seqend.assemble = some (encode .seqend) ∧
  AsmLine.encblk.assemble = some (encode .encblk) ∧ AsmLine.decblk.assemble = some (encode .decblk) ∧
  (AsmLine.menc .ecb).assemble = some (encode .mencEcb) ∧ (AsmLine.menc .cbc).assemble = some (encode .mencCbc) ∧
  (AsmLine.menc .cfb).assemble = some (encode .mencCfb) ∧ (AsmLine.mdec .ecb).assemble = some (encode .mdecEcb) ∧
  (AsmLine.mdec .cbc).assemble = some (encode .mdecCbc) ∧ (AsmLine.mdec .cfb).assemble = some (encode .mdecCfb) ∧
  AsmLine.subb.assemble = some (encode .subb) ∧ AsmLine.invsubb.assemble = some (encode .invsubb) ∧
  AsmLine.shrow.assemble = some (encode .shrow) ∧ AsmLine.invshrow.assemble = some (encode .invshrow) ∧
  AsmLine.mixcol.assemble = some (encode .mixcol) ∧ AsmLine.invmixcol.assemble = some (encode .invmixcol) ∧
  (∀ r : Nat, (AsmLine.addrk r).assemble = if r ≤ 15 then some (encode (.addrk (BitVec.ofNat 4 r))) else none) ∧
  (∀ a b : Nat, (AsmLine.gfmul a b).assemble =
    if a ≤ 255 ∧ b ≤ 255 then some (encode (.gfmul (BitVec.ofNat 8 a) (BitVec.ofNat 8 b))) else none) ∧
  (∀ (a : Nat) (t : TableName), (AsmLine.gftab a t).assemble =
    if a ≤ 255 then some (encode (.gftab (BitVec.ofNat 8 a) (BitVec.ofNat 3 t.tsel))) else none) ∧
  (∀ a : Nat, (AsmLine.sbox a).assemble = if a ≤ 255 then some (encode (.sbox (BitVec.ofNat 8 a))) else none) ∧
  (∀ a : Nat, (AsmLine.invsbox a).assemble = if a ≤ 255 then some (encode (.invsbox (BitVec.ofNat 8 a))) else none) ∧
  (∀ w : Nat, (AsmLine.cmdword w).assemble = if w < 2 ^ 32 then some (BitVec.ofNat 32 w) else none)

/-! ## The lifecycle of a command -/

/-- R122, R123: when the ENGINE has the turn and a command is in flight whose word decodes to `i`, the step is `i`'s effect on
the state without that turn, followed by the fall of BUSY. An empty schedule gives the ENGINE the turn then (log 4).
With no command in flight the ENGINE's turn changes nothing. -/
def Obligations.EngineTurnCompletesTheDecodedCommand : Prop :=
  (∀ (s : State) (i : Instr), s.schedule.head? = some .engine ∨ s.schedule = [] → s.status.busy = true →
    decode s.cmd = .ok i →
    step s = match exec i { s with schedule := s.schedule.tail, rdata := none } with
      | .next t => .next { t with status := { t.status with busy := false } }
      | .fault f => .fault f
      | .refused r => .refused r) ∧
  (∀ s : State, s.schedule.head? = some .engine → s.status.busy = false →
    step s = .next { s with schedule := s.schedule.tail, rdata := none })

/-- R101, R122, R254: a word that decodes to no command completes by recording IllegalCommand and nothing else. -/
def Obligations.IllegalWordOnlyRecordsIllegalCommand : Prop :=
  ∀ (s : State) (e : IllegalWord), s.schedule.head? = some .engine → s.status.busy = true → decode s.cmd = .error e →
    step s = .next { s with
      schedule := s.schedule.tail
      rdata := none
      status := { s.status with
        busy := false
        err := true
        errcode := if s.status.err = true then s.status.errcode else .illegalCommand } }

/-- R120: a write to CMD with BUSY = 0 stores the word, whatever it is, and raises BUSY; nothing else changes. -/
def Obligations.IdleCmdWriteIsAccepted : Prop :=
  ∀ (s : State) (w : Word) (rest : List HostOp), s.status.busy = false → s.program = .bus (.wr 0 w) :: rest →
    hostTurn s = .next { s with program := rest, cmd := w, status := { s.status with busy := true } }

/-- R121: a write while busy is dropped; at a writable index it records BusyWrite if ERR = 0, elsewhere it does nothing; and
the command in flight completes with the same effect, the error record apart. -/
def Obligations.WriteWhileBusyIsDroppedAndRecorded : Prop :=
  ∀ (s : State) (a : WindowIndex) (v : Word) (rest : List HostOp), s.status.busy = true →
    s.program = .bus (.wr a v) :: rest →
    (writableIndex a.toNat = true → hostTurn s = .next { s with
      program := rest
      status := { s.status with
        err := true
        errcode := if s.status.err = true then s.status.errcode else .busyWrite } }) ∧
    (writableIndex a.toNat = false → hostTurn s = .next { s with program := rest }) ∧
    (∃ t u : State, complete s = .next t ∧ complete (s.busWrite a v) = .next u ∧ t.sameButErrors u)

/-- R51, R52, R53, R56: with BUSY = 0, a write at DATA, IV or KEY stores the word there and nothing else; a write at a read-only
or reserved index does nothing. -/
def Obligations.IdleWritesStoreOnlyTheirWord : Prop :=
  ∀ (s : State) (a : WindowIndex) (v : Word) (rest : List HostOp), s.status.busy = false →
    s.program = .bus (.wr a v) :: rest →
    (∀ j : Fin 4, a.toNat = 4 + j.val → hostTurn s = .next { s with program := rest, data := s.data.set j v }) ∧
    (∀ j : Fin 4, a.toNat = 8 + j.val → hostTurn s = .next { s with program := rest, iv := s.iv.set j v }) ∧
    (∀ j : Fin 8, a.toNat = 16 + j.val → hostTurn s = .next { s with program := rest, key := s.key.set j v }) ∧
    (writableIndex a.toNat = false → hostTurn s = .next { s with program := rest })

/-- R256: with BUSY = 0, a write at STATUS clears ERR and ERRCODE if bit 2 of the value is 1 and ignores every other bit; with
BUSY = 1 it is a BusyWrite; CLRERR is the write of 0x4. -/
def Obligations.StatusWriteClearsOnlyTheErrorRecord : Prop :=
  (∀ (s : State) (v : Word) (rest : List HostOp), s.program = .bus (.wr 1 v) :: rest →
    (s.status.busy = false → v.getLsbD 2 = true →
      hostTurn s = .next { s with program := rest, status := { s.status with err := false, errcode := .noError } }) ∧
    (s.status.busy = false → v.getLsbD 2 = false → hostTurn s = .next { s with program := rest }) ∧
    (s.status.busy = true → hostTurn s = .next { s with
      program := rest
      status := { s.status with
        err := true
        errcode := if s.status.err = true then s.status.errcode else .busyWrite } })) ∧
  HostLine.clrerr.expand = some [.bus (.wr 1 0x00000004)]

/-- R51, R52, R56: with BUSY = 0, a read returns the word the register map lists at the index, zero at a reserved index, and
changes nothing in the block. The returned value stands in `rdata` (log 6). -/
def Obligations.IdleReadsReturnTheWindow : Prop :=
  ∀ (s : State) (a : WindowIndex) (rest : List HostOp), s.status.busy = false → s.program = .bus (.rd a) :: rest →
    hostTurn s = .next { s with program := rest, rdata := some (s.windowWords.getD a.toNat 0) }

/-- R125, R126: with a command in flight, a read inside its destination set returns the next draw and uses it up, whatever the
draw is (log 1); a read anywhere else returns the register's true value. STATUS, index 1, is never a draw. -/
def Obligations.BusyReadsDrawExactlyTheDestinations : Prop :=
  ∀ (s : State) (a : WindowIndex) (rest : List HostOp), s.status.busy = true → s.program = .bus (.rd a) :: rest →
    (∀ i, decode s.cmd = .ok i → drawnIndex i a.toNat = true →
      hostTurn s = .next { s with program := rest, rdata := some (Config.draw s.draws), draws := s.draws + 1 }) ∧
    (∀ i, decode s.cmd = .ok i → drawnIndex i a.toNat = false →
      hostTurn s = .next { s with program := rest, rdata := some (s.windowWords.getD a.toNat 0) }) ∧
    (∀ e, decode s.cmd = .error e →
      hostTurn s = .next { s with program := rest, rdata := some (s.windowWords.getD a.toNat 0) })

/-- R28, R251: where each field of STATUS stands in the word a HOST reads, and the code of each error. -/
def Obligations.StatusFieldsStandWhereTheLayoutSays : Prop :=
  ∀ t : Status,
    t.toWord.getLsbD 0 = t.busy ∧ t.toWord.getLsbD 1 = t.kvalid ∧ t.toWord.getLsbD 2 = t.err ∧
    t.toWord.getLsbD 3 = t.seq ∧ t.toWord.extractLsb' 4 4 = t.errcode.code ∧ t.toWord.extractLsb' 8 2 = t.klen ∧
    t.toWord.extractLsb' 10 2 = 0 ∧ t.toWord.extractLsb' 12 4 = t.nr ∧ t.toWord.extractLsb' 16 16 = 0 ∧
    ErrCode.noError.code = 0 ∧ ErrCode.unsupportedKeyLength.code = 1 ∧ ErrCode.unsupportedMode.code = 2 ∧
    ErrCode.invalidKeySchedule.code = 3 ∧ ErrCode.illegalCommand.code = 4 ∧ ErrCode.busyWrite.code = 5

/-- R107: WAIT reads STATUS and is over exactly when the word read has bit 0 clear, that is when no command is in flight. The word
read stands in `rdata` (log 6). -/
def Obligations.WaitEndsExactlyWhenNoCommandIsInFlight : Prop :=
  ∀ (s : State) (rest : List HostOp), s.program = .bus .wait :: rest →
    hostTurn s = .next { s with
      program := if s.status.busy = true then .bus .wait :: rest else rest
      rdata := some s.status.toWord }

/-- R50, R55: an adapter turns one-word accesses at AES_BASE + 4a into accesses of index a; inside the window it refuses, by
name, any other byte address and any other size; an address outside the window is no address of the block (a fault, log 5). -/
def Obligations.PlatformAccessesMapOrStop : Prop :=
  ∀ (s : State) (addr size : Nat) (v : Word) (rest : List HostOp),
    (∀ a : WindowIndex, addr = Config.aesBase + 4 * a.toNat → size = 4 →
      (s.program = .platformRd addr size :: rest → hostTurn s = hostTurn { s with program := .bus (.rd a) :: rest }) ∧
      (s.program = .platformWr addr size v :: rest →
        hostTurn s = hostTurn { s with program := .bus (.wr a v) :: rest })) ∧
    (s.program = .platformRd addr size :: rest ∨ s.program = .platformWr addr size v :: rest →
      (addr < Config.aesBase ∨ Config.aesBase + 4096 ≤ addr → hostTurn s = .fault (.outsideWindow addr)) ∧
      (Config.aesBase ≤ addr → addr < Config.aesBase + 4096 → size ≠ 4 →
        hostTurn s = .refused (.notOneWordAccess addr size)) ∧
      (Config.aesBase ≤ addr → addr < Config.aesBase + 4096 → size = 4 → (addr - Config.aesBase) % 4 ≠ 0 →
        hostTurn s = .refused (.misalignedAccess addr)))

/-- R128: from any state with BUSY = 1 whose HOST uses no platform adapter, BUSY is 0 after at most one step more than the
schedule fixes; and if the schedule holds no reset, the step in which BUSY falls is the ENGINE's, which completes the same
command word. That an exhausted schedule gives the ENGINE the turn is log 4. -/
def Obligations.EveryCommandInFlightCompletes : Prop :=
  ∀ s : State, s.status.busy = true → (∀ op ∈ s.program, op.isBus = true) →
    (∃ (k : Nat) (t : State), k ≤ s.schedule.length + 1 ∧ Sys2Proof.core.run k s = .next t ∧ t.status.busy = false) ∧
    ((∀ h : Bool, Agent.reset h ∉ s.schedule) →
      ∃ (k : Nat) (u t : State), k ≤ s.schedule.length ∧ Sys2Proof.core.run k s = .next u ∧
        u.status.busy = true ∧ u.cmd = s.cmd ∧ u.nextAgent = .engine ∧
        step u = complete u.beginTurn ∧ step u = .next t ∧ t.status.busy = false)

/-- R54, R67: no HOST turn changes the word, the operands or the mode of a command in flight. -/
def Obligations.HostTurnsKeepTheCommandInFlight : Prop :=
  ∀ s t : State, s.status.busy = true → hostTurn s = .next t →
    t.cmd = s.cmd ∧ t.res = s.res ∧ t.data = s.data ∧ t.iv = s.iv ∧ t.chain = s.chain ∧ t.key = s.key ∧ t.rk = s.rk ∧
    s.sameButErrors { s with status := t.status }

/-! ## Reset -/

/-- R281: after reset every index of the window reads zero, STATUS among them, and no command is in flight. -/
def Obligations.ResetStateReadsZeroEverywhere : Prop :=
  State.reset.status.busy = false ∧ (∀ a : WindowIndex, State.reset.busValue a = 0) ∧
  State.reset.windowWords = List.replicate 1024 0

/-- R280, R282: a RESET turn puts every register at its reset value, whatever the state, a command in flight included; an access
the HOST presents in the reset cycle has no effect and a read of it gives 0; no such turn faults or is refused, whatever the HOST
presents, a platform access that reaches no word index included. What the HOST still has to do, the schedule and the
draw counter are not the block's and stay (log 12). -/
def Obligations.ResetTurnZeroesEveryRegister : Prop :=
  (∀ (s : State) (rest : List Agent), s.schedule = .reset false :: rest →
    step s = .next { State.reset with program := s.program, schedule := rest, draws := s.draws }) ∧
  (∀ (s : State) (rest : List Agent) (a : WindowIndex) (more : List HostOp), s.schedule = .reset true :: rest →
    s.program = .bus (.rd a) :: more →
    step s = .next { State.reset with program := more, schedule := rest, draws := s.draws, rdata := some 0 }) ∧
  (∀ (s : State) (rest : List Agent) (a : WindowIndex) (v : Word) (more : List HostOp), s.schedule = .reset true :: rest →
    s.program = .bus (.wr a v) :: more →
    step s = .next { State.reset with program := more, schedule := rest, draws := s.draws }) ∧
  (∀ (s : State) (rest : List Agent) (h : Bool), s.schedule = .reset h :: rest →
    ∃ t : State, step s = .next t ∧
      t = { State.reset with program := t.program, schedule := rest, draws := s.draws, rdata := t.rdata }) ∧
  (∀ (s : State) (rest : List Agent) (op : HostOp) (more : List HostOp), s.schedule = .reset true :: rest →
    s.program = op :: more → (∀ b, op.onBus ≠ .next b) →
    step s = .next { State.reset with program := s.program, schedule := rest, draws := s.draws })

/-! ## Errors -/

/-- R252: recording sets ERR and ERRCODE when no error is recorded and changes nothing when one is. -/
def Obligations.FirstErrorIsKept : Prop :=
  ∀ (s : State) (e : ErrCode),
    (s.status.err = false → raise e s = .next { s with status := { s.status with err := true, errcode := e } }) ∧
    (s.status.err = true → raise e s = .next s)

/-- R206 to R208, R223 to R228, R254: with KVALID = 0 every command that needs round keys, and with KVALID = 1 an ADDRK above NR,
records InvalidKeySchedule and writes nothing else. -/
def Obligations.CommandsWithoutTheirRoundKeyOnlyRecordIt : Prop :=
  ∀ s : State,
    (s.status.kvalid = false → ∀ r : BitVec 4,
      ∀ i ∈ [Instr.encblk, .decblk, .mencEcb, .mdecEcb, .mencCbc, .mdecCbc, .mencCfb, .mdecCfb, .addrk r],
        exec i s = .next { s with status := { s.status with
          err := true
          errcode := if s.status.err = true then s.status.errcode else .invalidKeySchedule } }) ∧
    (s.status.kvalid = true → ∀ r : BitVec 4, s.status.nr.toNat < r.toNat →
      exec (.addrk r) s = .next { s with status := { s.status with
        err := true
        errcode := if s.status.err = true then s.status.errcode else .invalidKeySchedule } })

/-- R257: a recorded error neither stops a command nor changes what it does; only ERR and ERRCODE can differ afterwards. -/
def Obligations.ErrorRecordNeverChangesAResult : Prop :=
  ∀ (i : Instr) (s : State) (e : Bool) (c : ErrCode),
    ∃ t u : State, exec i s = .next t ∧ exec i { s with status := { s.status with err := e, errcode := c } } = .next u ∧
      t.sameButErrors u

/-- R31, R256: the only steps that remove an error record are a reset and a HOST write of 1 to STATUS bit 2 with BUSY = 0; and
while a record stands its code does not change. Whose step it is with an empty schedule is log 4. -/
def Obligations.ErrorRecordEndsOnlyByClearOrReset : Prop :=
  ∀ s t : State, step s = .next t → s.status.err = true →
    (t.status.err = true ∧ t.status.errcode = s.status.errcode) ∨ s.resets ∨
    (s.status.busy = false ∧ ∃ v : Word, s.hostWrites 1 v ∧ v.getLsbD 2 = true)

/-! ## Control and key-schedule commands -/

/-- R129: NOP completes and changes nothing. -/
def Obligations.NopChangesNothing : Prop := ∀ s : State, exec .nop s = .next s

/-- R220: SEQINIT copies IV to CHAIN and sets SEQ, and changes nothing else. -/
def Obligations.SeqinitCopiesIvToChain : Prop :=
  ∀ s : State, exec .seqinit s = .next { s with chain := s.iv, status := { s.status with seq := true } }

/-- R221: SEQEND zeroes CHAIN and IV and clears SEQ, and changes nothing else. -/
def Obligations.SeqendZeroesChainAndIv : Prop :=
  ∀ s : State, ∃ z : Group128, (∀ j : Fin 4, z[j] = 0) ∧
    exec .seqend s = .next { s with chain := z, iv := z, status := { s.status with seq := false } }

/-- R174, R175, R176: for each key length, KEYEXP completes; RK starts with the key words, every later word up to index
4*(Nr+1) - 1 obeys the recurrence of R174, the words above are zero; KVALID, KLEN and NR are set; nothing else changes. The
recurrence's SubWord puts each byte through the S-box in its place (R173), and its round constants double from 1 (R170). -/
def Obligations.KeyexpExpandsTheKey : Prop :=
  (∀ (w : Word) (k : Fin 4),
    (subWord w).extractLsb' (8 * k.val) 8 = sbox (w.extractLsb' (8 * k.val) 8)) ∧
  (rcon 0 = 1 ∧ ∀ j < 9, rcon (j + 1) = gfMul 2 (rcon j)) ∧
  ∀ (s : State) (klen : BitVec 2) (nk nr : Nat),
    (klen = 0 ∧ nk = 4 ∧ nr = 10) ∨ (klen = 1 ∧ nk = 6 ∧ nr = 12) ∨ (klen = 2 ∧ nk = 8 ∧ nr = 14) →
    ∃ rk : Vector Word 60,
      exec (.keyexp klen) s = .next { s with
        rk := rk
        status := { s.status with kvalid := true, klen := klen, nr := BitVec.ofNat 4 nr } } ∧
      (∀ (i : Fin 60) (j : Fin 8), i.val = j.val → i.val < nk → rk[i] = s.key[j]) ∧
      (∀ i p q : Fin 60, nk ≤ i.val → i.val < 4 * (nr + 1) → p.val + 1 = i.val → q.val + nk = i.val →
        rk[i] = rk[q] ^^^
          (if i.val % nk = 0 then subWord ((rk[p]).rotateLeft 8) ^^^ (rcon (i.val / nk - 1) ++ 0#24)
           else if nk = 8 ∧ i.val % nk = 4 then subWord rk[p]
           else rk[p])) ∧
      (∀ i : Fin 60, 4 * (nr + 1) ≤ i.val → rk[i] = 0)

/-- R177: KEYEXP with KLEN = 3, the word 0x00000301, zeroes RK, clears KVALID, KLEN and NR and records UnsupportedKeyLength. -/
def Obligations.KeyexpOfReservedLengthClearsTheSchedule : Prop :=
  decode 0x00000301 = .ok (.keyexp 3) ∧
  ∀ s : State, ∃ z : Vector Word 60, (∀ j : Fin 60, z[j] = 0) ∧
    exec (.keyexp 3) s = .next { s with
      rk := z
      status := { s.status with
        kvalid := false
        klen := 0
        nr := 0
        err := true
        errcode := if s.status.err = true then s.status.errcode else .unsupportedKeyLength } }

/-- R24, R176: KEY words at or above Nk are not read: two states that differ only there get the same schedule. -/
def Obligations.KeyexpIgnoresKeyWordsAboveNk : Prop :=
  ∀ (s : State) (key : Vector Word 8) (klen : BitVec 2) (nk nr : Nat), keyShape klen = some (nk, nr) →
    (∀ j : Fin 8, j.val < nk → key[j] = s.key[j]) →
    ∃ t u : State, exec (.keyexp klen) s = .next t ∧ exec (.keyexp klen) { s with key := key } = .next u ∧
      u = { t with key := key } ∧ t.status.kvalid = true

/-! ## Elementary round commands -/

/-- R190, R191, R200, R201: SUBB and INVSUBB replace every cell of the state matrix by its S-box or inverse S-box entry; nothing
but DATA changes. -/
def Obligations.SubbSubstitutesEveryCell : Prop :=
  ∀ s : State,
    (∃ g : Group128, exec .subb s = .next { s with data := g } ∧
      ∀ r c : Fin 4, cell g r c = sbox (cell s.data r c)) ∧
    (∃ g : Group128, exec .invsubb s = .next { s with data := g } ∧
      ∀ r c : Fin 4, cell g r c = invSbox (cell s.data r c))

/-- R192, R193, R202, R203: SHROW rotates row r of the state matrix left by r columns, INVSHROW right by r; nothing but DATA
changes. -/
def Obligations.ShrowRotatesEveryRow : Prop :=
  ∀ s : State,
    (∃ g : Group128, exec .shrow s = .next { s with data := g } ∧
      ∀ r c : Fin 4, cell g r c = cell s.data r (c + r)) ∧
    (∃ g : Group128, exec .invshrow s = .next { s with data := g } ∧
      ∀ r c : Fin 4, cell g r c = cell s.data r (c - r))

/-- R194, R195, R204, R205: MIXCOL multiplies every column by the circulant of (2,3,1,1), INVMIXCOL by that of (14,11,13,9), row r
rotated right by r; nothing but DATA changes. -/
def Obligations.MixcolMultipliesEveryColumn : Prop :=
  ∀ s : State,
    (∃ g : Group128, exec .mixcol s = .next { s with data := g } ∧
      ∀ r c : Fin 4, cell g r c =
        gfMul 2 (cell s.data r c) ^^^ gfMul 3 (cell s.data (r + 1) c) ^^^ cell s.data (r + 2) c ^^^ cell s.data (r + 3) c) ∧
    (∃ g : Group128, exec .invmixcol s = .next { s with data := g } ∧
      ∀ r c : Fin 4, cell g r c =
        gfMul 14 (cell s.data r c) ^^^ gfMul 11 (cell s.data (r + 1) c) ^^^ gfMul 13 (cell s.data (r + 2) c)
          ^^^ gfMul 9 (cell s.data (r + 3) c))

/-- R196, R206: with a schedule and RIDX at most NR, ADDRK XORs DATAj with RK(4*RIDX + j); nothing but DATA changes. NR is at most
14 in every reachable state (R39). -/
def Obligations.AddrkXorsTheRoundKey : Prop :=
  ∀ (s : State) (r : BitVec 4), s.status.kvalid = true → s.status.nr.toNat ≤ 14 → r.toNat ≤ s.status.nr.toNat →
    ∃ g : Group128, exec (.addrk r) s = .next { s with data := g } ∧
      ∀ (j : Fin 4) (k : Fin 60), k.val = 4 * r.toNat + j.val → g[j] = s.data[j] ^^^ s.rk[k]

/-! ## Block and mode commands -/

/-- R207, R208, R223, R224: with a schedule, ENCBLK and MENC.ECB replace DATA by its encryption, DECBLK and MDEC.ECB by its
decryption; nothing else changes. -/
def Obligations.BlockAndEcbCommandsTransformData : Prop :=
  ∀ s : State, s.status.kvalid = true →
    exec .encblk s = .next { s with data := words (cipher s.rk s.status.nr.toNat (blk s.data)) } ∧
    exec .mencEcb s = .next { s with data := words (cipher s.rk s.status.nr.toNat (blk s.data)) } ∧
    exec .decblk s = .next { s with data := words (invCipher s.rk s.status.nr.toNat (blk s.data)) } ∧
    exec .mdecEcb s = .next { s with data := words (invCipher s.rk s.status.nr.toNat (blk s.data)) }

/-- R197, R198, vector D11: the elementary commands in the order of the cipher and of the inverse cipher do, one after the
other, exactly what ENCBLK and DECBLK do in one step. -/
def Obligations.BlockCommandsAreTheirElementaryCommands : Prop :=
  ∀ s : State, s.status.kvalid = true →
    (∃ t : State, runCommands (cipherCommands s.status.nr.toNat) s = .next t ∧ exec .encblk s = .next t) ∧
    (∃ t : State, runCommands (invCipherCommands s.status.nr.toNat) s = .next t ∧ exec .decblk s = .next t)

/-- R222, R225, R226: with a schedule, MENC.CBC and MDEC.CBC, starting the sequence from IV when SEQ = 0. DATA gets the block,
CHAIN the ciphertext, SEQ becomes 1; nothing else changes. -/
def Obligations.CbcCommandsChainTheCiphertext : Prop :=
  ∀ s : State, s.status.kvalid = true →
    (∃ c : Group128, c = s.encryptGroup (xorGroup s.data s.chainingValue) ∧
      exec .mencCbc s = .next { s with data := c, chain := c, status := { s.status with seq := true } }) ∧
    exec .mdecCbc s = .next { s with
      data := xorGroup (s.decryptGroup s.data) s.chainingValue
      chain := s.data
      status := { s.status with seq := true } }

/-- R222, R227, R228: with a schedule, MENC.CFB and MDEC.CFB, both by the forward cipher, starting the sequence from IV when
SEQ = 0. DATA gets the block, CHAIN the ciphertext, SEQ becomes 1; nothing else changes. -/
def Obligations.CfbCommandsChainTheCiphertext : Prop :=
  ∀ s : State, s.status.kvalid = true →
    (∃ c : Group128, c = xorGroup s.data (s.encryptGroup s.chainingValue) ∧
      exec .mencCfb s = .next { s with data := c, chain := c, status := { s.status with seq := true } }) ∧
    exec .mdecCfb s = .next { s with
      data := xorGroup s.data (s.encryptGroup s.chainingValue)
      chain := s.data
      status := { s.status with seq := true } }

/-- R229: the words of MODE = 3 record UnsupportedMode, with or without a schedule, and write nothing else. -/
def Obligations.ReservedModeOnlyRecordsUnsupportedMode : Prop :=
  decode 0x00000310 = .ok .mencMode3 ∧ decode 0x00000311 = .ok .mdecMode3 ∧
  ∀ s : State, ∀ i ∈ [Instr.mencMode3, .mdecMode3],
    exec i s = .next { s with status := { s.status with
      err := true
      errcode := if s.status.err = true then s.status.errcode else .unsupportedMode } }

/-! ## Byte commands -/

/-- R158: GFMUL puts the product into RES, bits 31:8 zero, whatever the schedule; nothing else changes. -/
def Obligations.GfmulPutsTheProductIntoRes : Prop :=
  ∀ (s : State) (a b : Byte), exec (.gfmul a b) s = .next { s with res := 0#24 ++ gfMul a b }

/-- R159: GFTAB with TSEL 0..5 puts into RES what GFMUL by the coefficient 2, 3, 9, 11, 13 or 14 puts there; with TSEL 6 or 7, which
no word decodes to, it records IllegalCommand (log 13). -/
def Obligations.GftabAgreesWithGfmul : Prop :=
  ∀ (s : State) (a : Byte) (tsel : BitVec 3),
    (tsel.toNat ≤ 5 → ∃ k : Byte, [2, 3, 9, 11, 13, 14][tsel.toNat]? = some k ∧
      exec (.gftab a tsel) s = .next { s with res := 0#24 ++ gfMul a k } ∧
      exec (.gftab a tsel) s = exec (.gfmul a k) s) ∧
    (5 < tsel.toNat → exec (.gftab a tsel) s = .next { s with status := { s.status with
      err := true
      errcode := if s.status.err = true then s.status.errcode else .illegalCommand } })

/-- R160, R161: SBOX and INVSBOX put the table entry into RES, bits 31:8 zero; INVSBOX of what SBOX gave returns the operand, and
SBOX never returns its operand. The last two clauses rest on the entries of the S-boxes, which the spec supplies from general
knowledge (I1, I2; log 14); that SBOX has no fixed point is the spec's own inference from R156. -/
def Obligations.SboxCommandsPutTheEntryIntoRes : Prop :=
  ∀ (s : State) (a : Byte),
    exec (.sbox a) s = .next { s with res := 0#24 ++ sbox a } ∧
    exec (.invsbox a) s = .next { s with res := 0#24 ++ invSbox a } ∧
    exec (.invsbox (sbox a)) s = .next { s with res := 0#24 ++ a } ∧ sbox a ≠ a

/-! ## The mathematics of the block -/

/-- R150: `gf_mul` is polynomial multiplication over GF(2) modulo x^8 + x^4 + x^3 + x + 1. -/
def Obligations.GfMulIsThePolynomialProduct : Prop :=
  let P : Byte → Polynomial (ZMod 2) := fun a =>
    ∑ i ∈ Finset.range 8, if a.getLsbD i = true then (Polynomial.X : Polynomial (ZMod 2)) ^ i else 0
  ∀ a b : Byte, ∃ q : Polynomial (ZMod 2),
    P a * P b = q * (Polynomial.X ^ 8 + Polynomial.X ^ 4 + Polynomial.X ^ 3 + Polynomial.X + 1) + P (gfMul a b)

/-- R151 (the spec's own inference from R150): the laws of `gf_mul`: zero, one, commutativity, associativity, distribution over
XOR, and a unique inverse of every nonzero byte. -/
def Obligations.GfMulObeysTheFieldLaws : Prop :=
  (∀ a : Byte, gfMul a 0 = 0 ∧ gfMul 0 a = 0 ∧ gfMul a 1 = a ∧ gfMul 1 a = a) ∧
  (∀ a b : Byte, gfMul a b = gfMul b a) ∧
  (∀ a b c : Byte, gfMul a (gfMul b c) = gfMul (gfMul a b) c) ∧
  (∀ a b c : Byte, gfMul a (b ^^^ c) = gfMul a b ^^^ gfMul a c) ∧
  (∀ a : Byte, a ≠ 0 → ∃! b : Byte, gfMul a b = 1)

/-- R154: every multiply-by table agrees with `gf_mul` at every byte, with the operands in either order. -/
def Obligations.MulTablesAgreeWithGfMul : Prop :=
  ∀ p ∈ [(2, mul2Rom), (3, mul3Rom), (9, mul9Rom), (11, mul11Rom), (13, mul13Rom), ((14 : Byte), mul14Rom)],
    ∀ a : Byte, romByte p.2 a = gfMul p.1 a ∧ romByte p.2 a = gfMul a p.1

/-- R156, R157 (supplied by the spec from general knowledge, I1, I2; log 14): the S-box ROM is the affine image of the field
inverse, and the inverse ROM is its inverse permutation. -/
def Obligations.SboxIsTheAffineImageOfTheInverse : Prop :=
  (∀ x y : Byte, (x = 0 ∧ y = 0) ∨ gfMul x y = 1 →
    sbox x = y ^^^ y.rotateLeft 1 ^^^ y.rotateLeft 2 ^^^ y.rotateLeft 3 ^^^ y.rotateLeft 4 ^^^ 0x63) ∧
  (∀ x : Byte, invSbox (sbox x) = x) ∧ (∀ y : Byte, sbox (invSbox y) = y)

/-- R199 (the spec's own inference): each elementary function is undone by its inverse, and the inverse cipher undoes the cipher,
for every store of round keys and every Nr. -/
def Obligations.InverseFunctionsUndoTheirFunctions : Prop :=
  (∀ b : Block, invSubBytes (subBytes b) = b) ∧ (∀ b : Block, invShiftRows (shiftRows b) = b) ∧
  (∀ b : Block, invMixColumns (mixColumns b) = b) ∧ (∀ b k : Block, addRoundKey (addRoundKey b k) k = b) ∧
  (∀ (rk : Vector Word 60) (nr : Nat) (b : Block), invCipher rk nr (cipher rk nr b) = b)

/-! ## Sequences -/

/-- R230 (the spec's own inference): the output and the final chaining value of a sequence, for each mode and direction. The chaining value before block n is
the starting value for n = 0 and the previous ciphertext otherwise; the output has as many blocks as the input. -/
def Obligations.SequencesObeyTheModeEquations : Prop :=
  ∀ (s : State) (input : List Group128) (z : Group128), s.status.kvalid = true →
    (∃ t, runBlocks .mencEcb input s = some (input.map s.encryptGroup, t) ∧ t.chain = s.chain ∧ t.status = s.status) ∧
    (∃ t, runBlocks .mdecEcb input s = some (input.map s.decryptGroup, t) ∧ t.chain = s.chain ∧ t.status = s.status) ∧
    (∃ out t, runBlocks .mencCbc input s = some (out, t) ∧ out.length = input.length ∧
      t.chainingValue = (s.chainingValue :: out).getD input.length z ∧
      ∀ n < input.length, out.getD n z =
        s.encryptGroup (xorGroup (input.getD n z) ((s.chainingValue :: out).getD n z))) ∧
    (∃ out t, runBlocks .mdecCbc input s = some (out, t) ∧ out.length = input.length ∧
      t.chainingValue = (s.chainingValue :: input).getD input.length z ∧
      ∀ n < input.length, out.getD n z =
        xorGroup (s.decryptGroup (input.getD n z)) ((s.chainingValue :: input).getD n z)) ∧
    (∃ out t, runBlocks .mencCfb input s = some (out, t) ∧ out.length = input.length ∧
      t.chainingValue = (s.chainingValue :: out).getD input.length z ∧
      ∀ n < input.length, out.getD n z =
        xorGroup (input.getD n z) (s.encryptGroup ((s.chainingValue :: out).getD n z))) ∧
    (∃ out t, runBlocks .mdecCfb input s = some (out, t) ∧ out.length = input.length ∧
      t.chainingValue = (s.chainingValue :: input).getD input.length z ∧
      ∀ n < input.length, out.getD n z =
        xorGroup (input.getD n z) (s.encryptGroup ((s.chainingValue :: input).getD n z)))

/-- R231 (the spec's own inference): for each mode, decrypting the output of an encrypted sequence under the same schedule and from the same chaining value
gives back the input blocks. -/
def Obligations.DecryptedSequencesAreTheInput : Prop :=
  ∀ (s s' : State) (input : List Group128), s.status.kvalid = true → s'.status.kvalid = true → s'.rk = s.rk →
    s'.status.nr = s.status.nr → s'.chainingValue = s.chainingValue →
    ∀ p ∈ [(Instr.mencEcb, Instr.mdecEcb), (.mencCbc, .mdecCbc), (.mencCfb, .mdecCfb)],
      ∃ out t t', runBlocks p.1 input s = some (out, t) ∧ runBlocks p.2 out s' = some (input, t')

/-- R233 (the spec's own inference): a ciphertext block changed by a nonzero `d` (one flipped bit, for one). Under CBC decryption that block comes out
different, the next one changed by `d`, every other one as before; under CFB decryption that block comes out changed by `d`, the
next one different, every other one as before. -/
def Obligations.ChangedCiphertextSpoilsTwoBlocks : Prop :=
  ∀ (s : State) (c : List Group128) (n : Nat) (d z : Group128), s.status.kvalid = true → n < c.length →
    (∃ j : Fin 4, d[j] ≠ 0) →
    (∃ out t out' t', runBlocks .mdecCbc c s = some (out, t) ∧
      runBlocks .mdecCbc (c.set n (xorGroup (c.getD n z) d)) s = some (out', t') ∧
      out'.getD n z ≠ out.getD n z ∧ (n + 1 < c.length → out'.getD (n + 1) z = xorGroup (out.getD (n + 1) z) d) ∧
      ∀ m, m ≠ n → m ≠ n + 1 → out'.getD m z = out.getD m z) ∧
    (∃ out t out' t', runBlocks .mdecCfb c s = some (out, t) ∧
      runBlocks .mdecCfb (c.set n (xorGroup (c.getD n z) d)) s = some (out', t') ∧
      out'.getD n z = xorGroup (out.getD n z) d ∧ (n + 1 < c.length → out'.getD (n + 1) z ≠ out.getD (n + 1) z) ∧
      ∀ m, m ≠ n → m ≠ n + 1 → out'.getD m z = out.getD m z)

/-! ## The whole machine -/

/-- R39 (the spec's own inference), R281: the state after reset satisfies the invariant. -/
def Obligations.ResetSatisfiesTheInvariant : Prop := State.reset.Inv

/-- R39 (the spec's own inference), R26: from any state that satisfies the invariant, every step leads to one that does. -/
def Obligations.EveryStepKeepsTheInvariant : Prop :=
  ∀ s t : State, s.Inv → step s = .next t → t.Inv

/-- R124, R254: executing any word changes no register outside the destination set of its command, no STATUS field but those the
command names and the error record, and nothing outside the block; an illegal word changes only the error record. -/
def Obligations.CommandsWriteOnlyTheirDestinations : Prop :=
  ∀ (s : State) (w : Word), ∃ t : State, execute w s = .next t ∧
    (∀ i, decode w = .ok i →
      (∀ n : Nat, n ≠ 1 → drawnIndex i n = false → t.windowWords.getD n 0 = s.windowWords.getD n 0) ∧
      ((∀ k, i ≠ .keyexp k) →
        t.status.kvalid = s.status.kvalid ∧ t.status.klen = s.status.klen ∧ t.status.nr = s.status.nr) ∧
      (i ∉ [Instr.seqinit, .seqend, .mencCbc, .mdecCbc, .mencCfb, .mdecCfb] → t.status.seq = s.status.seq)) ∧
    (∀ e, decode w = .error e → s.sameButErrors t) ∧
    t.status.busy = s.status.busy ∧ t.program = s.program ∧ t.schedule = s.schedule ∧ t.rdata = s.rdata ∧
    t.draws = s.draws

/-- R20, R24, R25, R178: a register changes only in a step that resets, that is a HOST write at its own writable index with
BUSY = 0, or that completes a command with the register in its destination set. Whose step it is with an empty schedule is
log 4. -/
def Obligations.RegistersChangeOnlyByTheirWriters : Prop :=
  ∀ (s t : State) (a : WindowIndex), step s = .next t → a.toNat ≠ 1 →
    t.windowWords.getD a.toNat 0 ≠ s.windowWords.getD a.toNat 0 →
    s.resets ∨ (s.status.busy = false ∧ writableIndex a.toNat = true ∧ ∃ v : Word, s.hostWrites a v) ∨
    s.completes (fun i => drawnIndex i a.toNat)

/-- R28, R29, R30, R32, R178, R234: BUSY rises only by a HOST write to CMD and falls only by a completion or a reset; KVALID, KLEN
and NR change only by KEYEXP or a reset; SEQ only by SEQINIT, SEQEND, a CBC or CFB command or a reset. Whose step it is with an
empty schedule is log 4. -/
def Obligations.StatusFieldsChangeOnlyByTheirWriters : Prop :=
  ∀ s t : State, step s = .next t →
    (s.status.busy = false → t.status.busy = true → ∃ v : Word, s.hostWrites 0 v ∧ t.cmd = v) ∧
    (s.status.busy = true → t.status.busy = false → s.resets ∨ s.nextAgent = .engine) ∧
    (t.status.kvalid ≠ s.status.kvalid ∨ t.status.klen ≠ s.status.klen ∨ t.status.nr ≠ s.status.nr →
      s.resets ∨ s.completes (fun i => [Instr.keyexp 0, .keyexp 1, .keyexp 2, .keyexp 3].contains i)) ∧
    (t.status.seq ≠ s.status.seq →
      s.resets ∨ s.completes
        (fun i => [Instr.seqinit, .seqend, .mencCbc, .mdecCbc, .mencCfb, .mdecCfb].contains i))

/-- R9, R62: when the HOST has the turn, the step is the HOST's next operation on the state without that turn. An empty schedule
gives the HOST the turn when no command is in flight (log 4). -/
def Obligations.HostTurnPerformsTheNextOperation : Prop :=
  ∀ s : State, s.schedule.head? = some .host ∨ (s.schedule = [] ∧ s.status.busy = false) →
    step s = hostTurn { s with schedule := s.schedule.tail, rdata := none }
end

