-- ==== Sys2Proof/Laws/Blocks.lean ====
section
/-! SUPPORT. The byte of each block function at an index, the inverse pair blk and words (R57), and what the expansion loop
appends. -/

namespace Sys2Proof.Machine

/-! ## Bytes of a word -/

@[simp] theorem lane_ofLanes_zero (a b c d : Byte) : lane (ofLanes a b c d) 0 = a := by
  ext i hi
  simp only [lane, ofLanes, BitVec.getElem_extractLsb', BitVec.getLsbD_append]
  simp only [show ¬ (24 - 8 * 0 + i < 8) by omega, show ¬ (24 - 8 * 0 + i - 8 < 8) by omega,
    show ¬ (24 - 8 * 0 + i - 8 - 8 < 8) by omega, if_false]
  rw [show 24 - 8 * 0 + i - 8 - 8 - 8 = i by omega]
  exact BitVec.getLsbD_eq_getElem hi

@[simp] theorem lane_ofLanes_one (a b c d : Byte) : lane (ofLanes a b c d) 1 = b := by
  ext i hi
  simp only [lane, ofLanes, BitVec.getElem_extractLsb', BitVec.getLsbD_append]
  simp only [show ¬ (24 - 8 * 1 + i < 8) by omega, show ¬ (24 - 8 * 1 + i - 8 < 8) by omega,
    show 24 - 8 * 1 + i - 8 - 8 < 8 by omega, if_false, if_true]
  rw [show 24 - 8 * 1 + i - 8 - 8 = i by omega]
  exact BitVec.getLsbD_eq_getElem hi

@[simp] theorem lane_ofLanes_two (a b c d : Byte) : lane (ofLanes a b c d) 2 = c := by
  ext i hi
  simp only [lane, ofLanes, BitVec.getElem_extractLsb', BitVec.getLsbD_append]
  simp only [show ¬ (24 - 8 * 2 + i < 8) by omega, show 24 - 8 * 2 + i - 8 < 8 by omega, if_false, if_true]
  rw [show 24 - 8 * 2 + i - 8 = i by omega]
  exact BitVec.getLsbD_eq_getElem hi

@[simp] theorem lane_ofLanes_three (a b c d : Byte) : lane (ofLanes a b c d) 3 = d := by
  ext i hi
  simp only [lane, ofLanes, BitVec.getElem_extractLsb', BitVec.getLsbD_append]
  simp only [show 24 - 8 * 3 + i < 8 by omega, if_true]
  rw [show 24 - 8 * 3 + i = i by omega]
  exact BitVec.getLsbD_eq_getElem hi

/-- A word is its four bytes. -/
@[simp] theorem ofLanes_lane (w : Word) : ofLanes (lane w 0) (lane w 1) (lane w 2) (lane w 3) = w := by
  apply BitVec.eq_of_getLsbD_eq
  intro i hi
  rw [ofLanes, BitVec.getLsbD_append, BitVec.getLsbD_append, BitVec.getLsbD_append]
  simp only [lane, BitVec.getLsbD_extractLsb']
  split
  · simp [*]
  · split
    · simp [*, show 16 - 8 + (i - 8) = i by omega]
    · split
      · simp [*, show 16 + (i - 8 - 8) = i by omega]
      · simp [show i - 8 - 8 - 8 < 8 by omega, show 24 + (i - 8 - 8 - 8) = i by omega]

/-! ## Blocks and groups (R57) -/

/-- Byte i of a group's block view. -/
theorem blk_getElem (g : Group128) {i : Nat} (h : i < 16) : (blk g)[i] = lane (g[i / 4]) (i % 4) := by
  simp [blk, Vector.getElem_ofFn]

/-- Word j of a block's register form. -/
theorem words_getElem (b : Block) {j : Nat} (h : j < 4) :
    (words b)[j] = ofLanes b[4 * j] b[4 * j + 1] b[4 * j + 2] b[4 * j + 3] := by
  simp [words, Vector.getElem_ofFn]

/-- Writing a group's block view back gives the group. -/
@[simp] theorem words_blk (g : Group128) : words (blk g) = g := by
  apply Vector.ext
  intro j hj
  rw [words_getElem _ hj]
  rw [blk_getElem _ (by omega), blk_getElem _ (by omega), blk_getElem _ (by omega), blk_getElem _ (by omega)]
  simp only [show 4 * j / 4 = j by omega, show (4 * j + 1) / 4 = j by omega, show (4 * j + 2) / 4 = j by omega,
    show (4 * j + 3) / 4 = j by omega, show 4 * j % 4 = 0 by omega, show (4 * j + 1) % 4 = 1 by omega,
    show (4 * j + 2) % 4 = 2 by omega, show (4 * j + 3) % 4 = 3 by omega, ofLanes_lane]

/-- The block view of a block's register form is the block. -/
@[simp] theorem blk_words (b : Block) : blk (words b) = b := by
  apply Vector.ext
  intro i hi
  rw [blk_getElem _ hi, words_getElem _ (by omega)]
  have h : i % 4 = 0 ∨ i % 4 = 1 ∨ i % 4 = 2 ∨ i % 4 = 3 := by omega
  rcases h with h | h | h | h <;> simp only [h, lane_ofLanes_zero, lane_ofLanes_one, lane_ofLanes_two, lane_ofLanes_three]
  all_goals congr 1; omega

/-- A group is determined by its block view. -/
theorem blk_injective {g h : Group128} (e : blk g = blk h) : g = h := by
  rw [← words_blk g, ← words_blk h, e]

/-! ## Block functions byte by byte (R190 to R196) -/

theorem subBytes_getElem (b : Block) {i : Nat} (h : i < 16) : (subBytes b)[i] = sbox b[i] := by
  simp [subBytes, Vector.getElem_ofFn]

theorem invSubBytes_getElem (b : Block) {i : Nat} (h : i < 16) : (invSubBytes b)[i] = invSbox b[i] := by
  simp [invSubBytes, Vector.getElem_ofFn]

theorem shiftRows_getElem (b : Block) {i : Nat} (h : i < 16) :
    (shiftRows b)[i] = b[4 * ((i / 4 + i % 4) % 4) + i % 4] := by
  simp [shiftRows, Vector.getElem_ofFn]

theorem invShiftRows_getElem (b : Block) {i : Nat} (h : i < 16) :
    (invShiftRows b)[i] = b[4 * ((i / 4 + 4 - i % 4) % 4) + i % 4] := by
  simp [invShiftRows, Vector.getElem_ofFn]

theorem onColumns_getElem (f : Byte → Byte → Byte → Byte → Vector Byte 4) (b : Block) {i : Nat} (h : i < 16) :
    (onColumns f b)[i] =
      (f b[4 * (i / 4)] b[4 * (i / 4) + 1] b[4 * (i / 4) + 2] b[4 * (i / 4) + 3])[i % 4] := by
  simp [onColumns, Vector.getElem_ofFn]

theorem xorBlock_getElem (b k : Block) {i : Nat} (h : i < 16) : (xorBlock b k)[i] = b[i] ^^^ k[i] := by
  simp [xorBlock, Vector.getElem_ofFn]

/-- XOR with the same block twice. -/
@[simp] theorem xorBlock_xorBlock (b k : Block) : xorBlock (xorBlock b k) k = b := by
  apply Vector.ext
  intro i hi
  rw [xorBlock_getElem _ _ hi, xorBlock_getElem _ _ hi, BitVec.xor_assoc, BitVec.xor_self, BitVec.xor_zero]

theorem xorBlock_comm (b k : Block) : xorBlock b k = xorBlock k b := by
  apply Vector.ext
  intro i hi
  rw [xorBlock_getElem _ _ hi, xorBlock_getElem _ _ hi, BitVec.xor_comm]

/-! ## The expansion loop (R174) -/

@[simp] theorem expandStep_length (nk : Nat) (w : List Word) : (expandStep nk w).length = w.length + 1 := by
  simp [expandStep]

@[simp] theorem expandLoop_length (nk n : Nat) (w : List Word) : (expandLoop nk n w).length = w.length + n := by
  induction n generalizing w with
  | zero => rfl
  | succ n ih => rw [expandLoop, ih, expandStep_length]; omega

/-- An expansion step changes no word already there. -/
theorem expandStep_getD_lt (nk : Nat) (w : List Word) {i : Nat} (h : i < w.length) :
    (expandStep nk w).getD i 0 = w.getD i 0 := by
  rw [expandStep, List.getD_eq_getElem?_getD, List.getElem?_append_left h, ← List.getD_eq_getElem?_getD]

/-- The loop changes no word already there. -/
theorem expandLoop_getD_lt (nk n : Nat) (w : List Word) {i : Nat} (h : i < w.length) :
    (expandLoop nk n w).getD i 0 = w.getD i 0 := by
  induction n generalizing w with
  | zero => rfl
  | succ n ih => rw [expandLoop, ih _ (by rw [expandStep_length]; omega), expandStep_getD_lt _ _ h]

/-- The word an expansion step appends. -/
theorem expandStep_getD_length (nk : Nat) (w : List Word) :
    (expandStep nk w).getD w.length 0 =
      w.getD (w.length - nk) 0 ^^^ scheduleTemp nk w.length (w.getD (w.length - 1) 0) := by
  simp [expandStep, List.getD_eq_getElem?_getD]

end Sys2Proof.Machine
end

