-- ==== Sys2Proof/Laws/State.lean ====
section
/-! SUPPORT. One lemma per field per update of State and of STATUS, each true by rfl and a simp lemma, so that no proof
unfolds a record update; and the few facts about STATUS updates that need a case. -/

namespace Sys2Proof.Machine

/-! ## Register writes -/

section
variable (s : State) (w : Word)
@[simp] theorem State.setCmd_cmd : (s.setCmd w).cmd = w := rfl
@[simp] theorem State.setCmd_status : (s.setCmd w).status = s.status := rfl
@[simp] theorem State.setCmd_res : (s.setCmd w).res = s.res := rfl
@[simp] theorem State.setCmd_data : (s.setCmd w).data = s.data := rfl
@[simp] theorem State.setCmd_iv : (s.setCmd w).iv = s.iv := rfl
@[simp] theorem State.setCmd_chain : (s.setCmd w).chain = s.chain := rfl
@[simp] theorem State.setCmd_key : (s.setCmd w).key = s.key := rfl
@[simp] theorem State.setCmd_rk : (s.setCmd w).rk = s.rk := rfl
@[simp] theorem State.setCmd_program : (s.setCmd w).program = s.program := rfl
@[simp] theorem State.setCmd_schedule : (s.setCmd w).schedule = s.schedule := rfl
@[simp] theorem State.setCmd_rdata : (s.setCmd w).rdata = s.rdata := rfl
@[simp] theorem State.setCmd_draws : (s.setCmd w).draws = s.draws := rfl
end

section
variable (s : State) (t : Status)
@[simp] theorem State.setStatus_cmd : (s.setStatus t).cmd = s.cmd := rfl
@[simp] theorem State.setStatus_status : (s.setStatus t).status = t := rfl
@[simp] theorem State.setStatus_res : (s.setStatus t).res = s.res := rfl
@[simp] theorem State.setStatus_data : (s.setStatus t).data = s.data := rfl
@[simp] theorem State.setStatus_iv : (s.setStatus t).iv = s.iv := rfl
@[simp] theorem State.setStatus_chain : (s.setStatus t).chain = s.chain := rfl
@[simp] theorem State.setStatus_key : (s.setStatus t).key = s.key := rfl
@[simp] theorem State.setStatus_rk : (s.setStatus t).rk = s.rk := rfl
@[simp] theorem State.setStatus_program : (s.setStatus t).program = s.program := rfl
@[simp] theorem State.setStatus_schedule : (s.setStatus t).schedule = s.schedule := rfl
@[simp] theorem State.setStatus_rdata : (s.setStatus t).rdata = s.rdata := rfl
@[simp] theorem State.setStatus_draws : (s.setStatus t).draws = s.draws := rfl
end

section
variable (s : State) (w : Word)
@[simp] theorem State.setRes_cmd : (s.setRes w).cmd = s.cmd := rfl
@[simp] theorem State.setRes_status : (s.setRes w).status = s.status := rfl
@[simp] theorem State.setRes_res : (s.setRes w).res = w := rfl
@[simp] theorem State.setRes_data : (s.setRes w).data = s.data := rfl
@[simp] theorem State.setRes_iv : (s.setRes w).iv = s.iv := rfl
@[simp] theorem State.setRes_chain : (s.setRes w).chain = s.chain := rfl
@[simp] theorem State.setRes_key : (s.setRes w).key = s.key := rfl
@[simp] theorem State.setRes_rk : (s.setRes w).rk = s.rk := rfl
@[simp] theorem State.setRes_program : (s.setRes w).program = s.program := rfl
@[simp] theorem State.setRes_schedule : (s.setRes w).schedule = s.schedule := rfl
@[simp] theorem State.setRes_rdata : (s.setRes w).rdata = s.rdata := rfl
@[simp] theorem State.setRes_draws : (s.setRes w).draws = s.draws := rfl
end

section
variable (s : State) (g : Group128)
@[simp] theorem State.setData_cmd : (s.setData g).cmd = s.cmd := rfl
@[simp] theorem State.setData_status : (s.setData g).status = s.status := rfl
@[simp] theorem State.setData_res : (s.setData g).res = s.res := rfl
@[simp] theorem State.setData_data : (s.setData g).data = g := rfl
@[simp] theorem State.setData_iv : (s.setData g).iv = s.iv := rfl
@[simp] theorem State.setData_chain : (s.setData g).chain = s.chain := rfl
@[simp] theorem State.setData_key : (s.setData g).key = s.key := rfl
@[simp] theorem State.setData_rk : (s.setData g).rk = s.rk := rfl
@[simp] theorem State.setData_program : (s.setData g).program = s.program := rfl
@[simp] theorem State.setData_schedule : (s.setData g).schedule = s.schedule := rfl
@[simp] theorem State.setData_rdata : (s.setData g).rdata = s.rdata := rfl
@[simp] theorem State.setData_draws : (s.setData g).draws = s.draws := rfl
end

section
variable (s : State) (g : Group128)
@[simp] theorem State.setIv_cmd : (s.setIv g).cmd = s.cmd := rfl
@[simp] theorem State.setIv_status : (s.setIv g).status = s.status := rfl
@[simp] theorem State.setIv_res : (s.setIv g).res = s.res := rfl
@[simp] theorem State.setIv_data : (s.setIv g).data = s.data := rfl
@[simp] theorem State.setIv_iv : (s.setIv g).iv = g := rfl
@[simp] theorem State.setIv_chain : (s.setIv g).chain = s.chain := rfl
@[simp] theorem State.setIv_key : (s.setIv g).key = s.key := rfl
@[simp] theorem State.setIv_rk : (s.setIv g).rk = s.rk := rfl
@[simp] theorem State.setIv_program : (s.setIv g).program = s.program := rfl
@[simp] theorem State.setIv_schedule : (s.setIv g).schedule = s.schedule := rfl
@[simp] theorem State.setIv_rdata : (s.setIv g).rdata = s.rdata := rfl
@[simp] theorem State.setIv_draws : (s.setIv g).draws = s.draws := rfl
end

section
variable (s : State) (g : Group128)
@[simp] theorem State.setChain_cmd : (s.setChain g).cmd = s.cmd := rfl
@[simp] theorem State.setChain_status : (s.setChain g).status = s.status := rfl
@[simp] theorem State.setChain_res : (s.setChain g).res = s.res := rfl
@[simp] theorem State.setChain_data : (s.setChain g).data = s.data := rfl
@[simp] theorem State.setChain_iv : (s.setChain g).iv = s.iv := rfl
@[simp] theorem State.setChain_chain : (s.setChain g).chain = g := rfl
@[simp] theorem State.setChain_key : (s.setChain g).key = s.key := rfl
@[simp] theorem State.setChain_rk : (s.setChain g).rk = s.rk := rfl
@[simp] theorem State.setChain_program : (s.setChain g).program = s.program := rfl
@[simp] theorem State.setChain_schedule : (s.setChain g).schedule = s.schedule := rfl
@[simp] theorem State.setChain_rdata : (s.setChain g).rdata = s.rdata := rfl
@[simp] theorem State.setChain_draws : (s.setChain g).draws = s.draws := rfl
end

section
variable (s : State) (k : Vector Word 8)
@[simp] theorem State.setKey_cmd : (s.setKey k).cmd = s.cmd := rfl
@[simp] theorem State.setKey_status : (s.setKey k).status = s.status := rfl
@[simp] theorem State.setKey_res : (s.setKey k).res = s.res := rfl
@[simp] theorem State.setKey_data : (s.setKey k).data = s.data := rfl
@[simp] theorem State.setKey_iv : (s.setKey k).iv = s.iv := rfl
@[simp] theorem State.setKey_chain : (s.setKey k).chain = s.chain := rfl
@[simp] theorem State.setKey_key : (s.setKey k).key = k := rfl
@[simp] theorem State.setKey_rk : (s.setKey k).rk = s.rk := rfl
@[simp] theorem State.setKey_program : (s.setKey k).program = s.program := rfl
@[simp] theorem State.setKey_schedule : (s.setKey k).schedule = s.schedule := rfl
@[simp] theorem State.setKey_rdata : (s.setKey k).rdata = s.rdata := rfl
@[simp] theorem State.setKey_draws : (s.setKey k).draws = s.draws := rfl
end

section
variable (s : State) (k : Vector Word 60)
@[simp] theorem State.setRk_cmd : (s.setRk k).cmd = s.cmd := rfl
@[simp] theorem State.setRk_status : (s.setRk k).status = s.status := rfl
@[simp] theorem State.setRk_res : (s.setRk k).res = s.res := rfl
@[simp] theorem State.setRk_data : (s.setRk k).data = s.data := rfl
@[simp] theorem State.setRk_iv : (s.setRk k).iv = s.iv := rfl
@[simp] theorem State.setRk_chain : (s.setRk k).chain = s.chain := rfl
@[simp] theorem State.setRk_key : (s.setRk k).key = s.key := rfl
@[simp] theorem State.setRk_rk : (s.setRk k).rk = k := rfl
@[simp] theorem State.setRk_program : (s.setRk k).program = s.program := rfl
@[simp] theorem State.setRk_schedule : (s.setRk k).schedule = s.schedule := rfl
@[simp] theorem State.setRk_rdata : (s.setRk k).rdata = s.rdata := rfl
@[simp] theorem State.setRk_draws : (s.setRk k).draws = s.draws := rfl
end

/-! ## STATUS updates -/

section
variable (t : Status)
@[simp] theorem Status.clearError_busy : (t.clearError).busy = t.busy := rfl
@[simp] theorem Status.clearError_kvalid : (t.clearError).kvalid = t.kvalid := rfl
@[simp] theorem Status.clearError_err : (t.clearError).err = false := rfl
@[simp] theorem Status.clearError_seq : (t.clearError).seq = t.seq := rfl
@[simp] theorem Status.clearError_errcode : (t.clearError).errcode = .noError := rfl
@[simp] theorem Status.clearError_klen : (t.clearError).klen = t.klen := rfl
@[simp] theorem Status.clearError_nr : (t.clearError).nr = t.nr := rfl
end

section
variable (t : Status)
@[simp] theorem Status.setBusy_busy : (t.setBusy).busy = true := rfl
@[simp] theorem Status.setBusy_kvalid : (t.setBusy).kvalid = t.kvalid := rfl
@[simp] theorem Status.setBusy_err : (t.setBusy).err = t.err := rfl
@[simp] theorem Status.setBusy_seq : (t.setBusy).seq = t.seq := rfl
@[simp] theorem Status.setBusy_errcode : (t.setBusy).errcode = t.errcode := rfl
@[simp] theorem Status.setBusy_klen : (t.setBusy).klen = t.klen := rfl
@[simp] theorem Status.setBusy_nr : (t.setBusy).nr = t.nr := rfl
end

section
variable (t : Status)
@[simp] theorem Status.clearBusy_busy : (t.clearBusy).busy = false := rfl
@[simp] theorem Status.clearBusy_kvalid : (t.clearBusy).kvalid = t.kvalid := rfl
@[simp] theorem Status.clearBusy_err : (t.clearBusy).err = t.err := rfl
@[simp] theorem Status.clearBusy_seq : (t.clearBusy).seq = t.seq := rfl
@[simp] theorem Status.clearBusy_errcode : (t.clearBusy).errcode = t.errcode := rfl
@[simp] theorem Status.clearBusy_klen : (t.clearBusy).klen = t.klen := rfl
@[simp] theorem Status.clearBusy_nr : (t.clearBusy).nr = t.nr := rfl
end

section
variable (t : Status) (b : Bool)
@[simp] theorem Status.setSeq_busy : (t.setSeq b).busy = t.busy := rfl
@[simp] theorem Status.setSeq_kvalid : (t.setSeq b).kvalid = t.kvalid := rfl
@[simp] theorem Status.setSeq_err : (t.setSeq b).err = t.err := rfl
@[simp] theorem Status.setSeq_seq : (t.setSeq b).seq = b := rfl
@[simp] theorem Status.setSeq_errcode : (t.setSeq b).errcode = t.errcode := rfl
@[simp] theorem Status.setSeq_klen : (t.setSeq b).klen = t.klen := rfl
@[simp] theorem Status.setSeq_nr : (t.setSeq b).nr = t.nr := rfl
end

section
variable (t : Status) (k : BitVec 2) (n : Nat)
@[simp] theorem Status.validSchedule_busy : (t.validSchedule k n).busy = t.busy := rfl
@[simp] theorem Status.validSchedule_kvalid : (t.validSchedule k n).kvalid = true := rfl
@[simp] theorem Status.validSchedule_err : (t.validSchedule k n).err = t.err := rfl
@[simp] theorem Status.validSchedule_seq : (t.validSchedule k n).seq = t.seq := rfl
@[simp] theorem Status.validSchedule_errcode : (t.validSchedule k n).errcode = t.errcode := rfl
@[simp] theorem Status.validSchedule_klen : (t.validSchedule k n).klen = k := rfl
@[simp] theorem Status.validSchedule_nr : (t.validSchedule k n).nr = BitVec.ofNat 4 n := rfl
end

section
variable (t : Status)
@[simp] theorem Status.noSchedule_busy : (t.noSchedule).busy = t.busy := rfl
@[simp] theorem Status.noSchedule_kvalid : (t.noSchedule).kvalid = false := rfl
@[simp] theorem Status.noSchedule_err : (t.noSchedule).err = t.err := rfl
@[simp] theorem Status.noSchedule_seq : (t.noSchedule).seq = t.seq := rfl
@[simp] theorem Status.noSchedule_errcode : (t.noSchedule).errcode = t.errcode := rfl
@[simp] theorem Status.noSchedule_klen : (t.noSchedule).klen = 0 := rfl
@[simp] theorem Status.noSchedule_nr : (t.noSchedule).nr = 0 := rfl
end

/-! ## Recording an error (R252) -/

section
variable (e : ErrCode) (t : Status)

/-- An error already recorded is kept. -/
theorem Status.record_of_err (h : t.err = true) : t.record e = t := by simp [Status.record, h]

/-- The first error is recorded. -/
theorem Status.record_of_not_err (h : t.err = false) : t.record e = { t with err := true, errcode := e } := by
  simp [Status.record, h]

@[simp] theorem Status.record_busy : (t.record e).busy = t.busy := by cases h : t.err <;> simp [Status.record, h]
@[simp] theorem Status.record_kvalid : (t.record e).kvalid = t.kvalid := by cases h : t.err <;> simp [Status.record, h]
@[simp] theorem Status.record_seq : (t.record e).seq = t.seq := by cases h : t.err <;> simp [Status.record, h]
@[simp] theorem Status.record_klen : (t.record e).klen = t.klen := by cases h : t.err <;> simp [Status.record, h]
@[simp] theorem Status.record_nr : (t.record e).nr = t.nr := by cases h : t.err <;> simp [Status.record, h]
@[simp] theorem Status.record_err : (t.record e).err = true := by cases h : t.err <;> simp [Status.record, h]
end

section
variable (e : ErrCode) (s : State)
@[simp] theorem State.record_cmd : (s.record e).cmd = s.cmd := rfl
@[simp] theorem State.record_status : (s.record e).status = s.status.record e := rfl
@[simp] theorem State.record_res : (s.record e).res = s.res := rfl
@[simp] theorem State.record_data : (s.record e).data = s.data := rfl
@[simp] theorem State.record_iv : (s.record e).iv = s.iv := rfl
@[simp] theorem State.record_chain : (s.record e).chain = s.chain := rfl
@[simp] theorem State.record_key : (s.record e).key = s.key := rfl
@[simp] theorem State.record_rk : (s.record e).rk = s.rk := rfl
@[simp] theorem State.record_program : (s.record e).program = s.program := rfl
@[simp] theorem State.record_schedule : (s.record e).schedule = s.schedule := rfl
@[simp] theorem State.record_rdata : (s.record e).rdata = s.rdata := rfl
@[simp] theorem State.record_draws : (s.record e).draws = s.draws := rfl
end

/-! ## Turns -/

section
variable (s : State)
@[simp] theorem State.beginTurn_cmd : s.beginTurn.cmd = s.cmd := rfl
@[simp] theorem State.beginTurn_status : s.beginTurn.status = s.status := rfl
@[simp] theorem State.beginTurn_res : s.beginTurn.res = s.res := rfl
@[simp] theorem State.beginTurn_data : s.beginTurn.data = s.data := rfl
@[simp] theorem State.beginTurn_iv : s.beginTurn.iv = s.iv := rfl
@[simp] theorem State.beginTurn_chain : s.beginTurn.chain = s.chain := rfl
@[simp] theorem State.beginTurn_key : s.beginTurn.key = s.key := rfl
@[simp] theorem State.beginTurn_rk : s.beginTurn.rk = s.rk := rfl
@[simp] theorem State.beginTurn_program : s.beginTurn.program = s.program := rfl
@[simp] theorem State.beginTurn_schedule : s.beginTurn.schedule = s.schedule.tail := rfl
@[simp] theorem State.beginTurn_rdata : s.beginTurn.rdata = none := rfl
@[simp] theorem State.beginTurn_draws : s.beginTurn.draws = s.draws := rfl
@[simp] theorem State.endCommand_cmd : s.endCommand.cmd = s.cmd := rfl
@[simp] theorem State.endCommand_status : s.endCommand.status = s.status.clearBusy := rfl
@[simp] theorem State.endCommand_res : s.endCommand.res = s.res := rfl
@[simp] theorem State.endCommand_data : s.endCommand.data = s.data := rfl
@[simp] theorem State.endCommand_iv : s.endCommand.iv = s.iv := rfl
@[simp] theorem State.endCommand_chain : s.endCommand.chain = s.chain := rfl
@[simp] theorem State.endCommand_key : s.endCommand.key = s.key := rfl
@[simp] theorem State.endCommand_rk : s.endCommand.rk = s.rk := rfl
@[simp] theorem State.endCommand_program : s.endCommand.program = s.program := rfl
@[simp] theorem State.endCommand_schedule : s.endCommand.schedule = s.schedule := rfl
@[simp] theorem State.endCommand_rdata : s.endCommand.rdata = s.rdata := rfl
@[simp] theorem State.endCommand_draws : s.endCommand.draws = s.draws := rfl
@[simp] theorem State.resetRegisters_cmd : s.resetRegisters.cmd = 0 := rfl
@[simp] theorem State.resetRegisters_status : s.resetRegisters.status = Status.reset := rfl
@[simp] theorem State.resetRegisters_res : s.resetRegisters.res = 0 := rfl
@[simp] theorem State.resetRegisters_data : s.resetRegisters.data = zeroGroup := rfl
@[simp] theorem State.resetRegisters_iv : s.resetRegisters.iv = zeroGroup := rfl
@[simp] theorem State.resetRegisters_chain : s.resetRegisters.chain = zeroGroup := rfl
@[simp] theorem State.resetRegisters_key : s.resetRegisters.key = Vector.replicate 8 0 := rfl
@[simp] theorem State.resetRegisters_rk : s.resetRegisters.rk = Vector.replicate 60 0 := rfl
@[simp] theorem State.resetRegisters_program : s.resetRegisters.program = s.program := rfl
@[simp] theorem State.resetRegisters_schedule : s.resetRegisters.schedule = s.schedule := rfl
@[simp] theorem State.resetRegisters_rdata : s.resetRegisters.rdata = s.rdata := rfl
@[simp] theorem State.resetRegisters_draws : s.resetRegisters.draws = s.draws := rfl
end

/-- The registers after a reset step are those of the machine after reset (R281). -/
theorem State.reset_resetRegisters : State.reset.resetRegisters = State.reset := rfl

/-- A state is its fields: equal fields, equal states. -/
theorem State.ext_fields {s t : State} (h1 : s.cmd = t.cmd) (h2 : s.status = t.status) (h3 : s.res = t.res)
    (h4 : s.data = t.data) (h5 : s.iv = t.iv) (h6 : s.chain = t.chain) (h7 : s.key = t.key) (h8 : s.rk = t.rk)
    (h9 : s.program = t.program) (h10 : s.schedule = t.schedule) (h11 : s.rdata = t.rdata) (h12 : s.draws = t.draws) :
    s = t := by
  cases s; cases t; simp_all

end Sys2Proof.Machine
end

