-- ==== Sys2Proof/Laws/Ops.lean ====
section
/-! SUPPORT. One lemma per shared operation, saying once everything it can do. -/

namespace Sys2Proof.Machine

/-! ## Errors and the schedule check -/

/-- Raising an error answers next and touches nothing but STATUS. -/
theorem raise_eq (e : ErrCode) (s : State) : raise e s = .next (s.setStatus (s.status.record e)) := rfl

/-- With an error already recorded, raising another changes nothing (R252). -/
theorem raise_of_err (e : ErrCode) (s : State) (h : s.status.err = true) : raise e s = .next s := by
  rw [raise_eq, Status.record_of_err e _ h]; rfl

theorem withSchedule_of_kvalid {s : State} (h : s.status.kvalid = true) (r : Result) : withSchedule s r = r := by
  simp [withSchedule, h]

theorem withSchedule_of_not_kvalid {s : State} (h : s.status.kvalid = false) (r : Result) :
    withSchedule s r = raise .invalidKeySchedule s := by
  simp [withSchedule, h]

/-! ## Starting a sequence (R222) -/

theorem State.openIfNeeded_of_seq {s : State} (h : s.status.seq = true) : s.openIfNeeded = s := by
  simp [State.openIfNeeded, h]

theorem State.openIfNeeded_of_not_seq {s : State} (h : s.status.seq = false) :
    s.openIfNeeded = (s.setChain s.iv).setStatus (s.status.setSeq true) := by
  simp [State.openIfNeeded, h]

@[simp] theorem State.openIfNeeded_seq (s : State) : s.openIfNeeded.status.seq = true := by
  cases h : s.status.seq <;> simp [State.openIfNeeded, h]

@[simp] theorem State.openIfNeeded_data (s : State) : s.openIfNeeded.data = s.data := by
  cases h : s.status.seq <;> simp [State.openIfNeeded, h]

@[simp] theorem State.openIfNeeded_rk (s : State) : s.openIfNeeded.rk = s.rk := by
  cases h : s.status.seq <;> simp [State.openIfNeeded, h]

@[simp] theorem State.openIfNeeded_nr (s : State) : s.openIfNeeded.status.nr = s.status.nr := by
  cases h : s.status.seq <;> simp [State.openIfNeeded, h]

@[simp] theorem State.openIfNeeded_kvalid (s : State) : s.openIfNeeded.status.kvalid = s.status.kvalid := by
  cases h : s.status.seq <;> simp [State.openIfNeeded, h]

/-! ## Key lengths and tables -/

/-- The KLEN codes and their shapes (R93). -/
theorem keyShape_cases (klen : BitVec 2) :
    (klen = 0 ∧ keyShape klen = some (4, 10)) ∨ (klen = 1 ∧ keyShape klen = some (6, 12)) ∨
    (klen = 2 ∧ keyShape klen = some (8, 14)) ∨ (klen = 3 ∧ keyShape klen = none) := by
  revert klen; decide

/-- A TSEL up to 5 names a table, 6 and 7 none (R98). -/
theorem mulRom_isSome (tsel : BitVec 3) : (mulRom tsel).isSome = decide (tsel.toNat ≤ 5) := by
  revert tsel; decide

/-! ## The bus -/

/-- A write while busy only records BusyWrite, and only at a writable index (R121). -/
theorem State.busWrite_of_busy {s : State} (h : s.status.busy = true) (a : WindowIndex) (v : Word) :
    s.busWrite a v = if regWritable (regAt a) then s.record .busyWrite else s := by
  simp [State.busWrite, h]

theorem State.busWrite_of_idle {s : State} (h : s.status.busy = false) (a : WindowIndex) (v : Word) :
    s.busWrite a v = s.writeReg (regAt a) v := by
  simp [State.busWrite, h]

/-- Idle, nothing is a draw (R125). -/
theorem State.isDraw_of_idle {s : State} (h : s.status.busy = false) (r : Reg) : s.isDraw r = false := by
  simp [State.isDraw, h]

/-- STATUS is never a draw (R126). -/
@[simp] theorem State.isDraw_status (s : State) : s.isDraw .status = false := by
  simp [State.isDraw, regIn]

@[simp] theorem regAt_statusIndex : regAt statusIndex = .status := by decide

/-- What WAIT reads is the STATUS word. -/
@[simp] theorem State.busValue_statusIndex (s : State) : s.busValue statusIndex = s.status.toWord := by
  simp [State.busValue, State.readReg]

/-- Bit 0 of the STATUS word is BUSY (R28). -/
@[simp] theorem Status.toWord_bit_zero (t : Status) : t.toWord.getLsbD 0 = t.busy := by
  rw [Status.toWord, BitVec.getLsbD_append]; cases t.busy <;> rfl

/-- A read changes no register (R56). -/
theorem State.busRead_eq (a : WindowIndex) (s : State) :
    ∃ v n, s.busRead a = { s with rdata := some v, draws := n } := ⟨_, _, rfl⟩

/-- A platform access of one word at AES_BASE + 4a is index a (R50). -/
theorem platformIndex_base (a : WindowIndex) : platformIndex (Config.aesBase + 4 * a.toNat) 4 = .next a := by
  have ha := a.isLt
  have h1 : ¬ (Config.aesBase + 4 * a.toNat < Config.aesBase ∨
      Config.aesBase + 4096 ≤ Config.aesBase + 4 * a.toNat) := by omega
  have h2 : (Config.aesBase + 4 * a.toNat - Config.aesBase) % 4 = 0 := by omega
  have h3 : (Config.aesBase + 4 * a.toNat - Config.aesBase) / 4 = a.toNat := by omega
  simp only [platformIndex, h1, if_false, h2, h3, ne_eq, not_true_eq_false, BitVec.ofNat_toNat, BitVec.setWidth_eq]

end Sys2Proof.Machine
end

