-- ==== Sys2Proof/Laws/Engine.lean ====
section
/-! SUPPORT. What a command, a completion and a turn can do, said once: every command answers next, what no command touches,
and the inversion of a step into its agent's turn. -/

namespace Sys2Proof.Machine

/-! ## Commands -/

/-- The fields that no command touches: CMD, KEY, BUSY and everything outside the block. -/
structure State.SameOutside (s t : State) : Prop where
  cmd : t.cmd = s.cmd
  key : t.key = s.key
  busy : t.status.busy = s.status.busy
  program : t.program = s.program
  schedule : t.schedule = s.schedule
  rdata : t.rdata = s.rdata
  draws : t.draws = s.draws

theorem State.SameOutside.refl (s : State) : s.SameOutside s := ⟨rfl, rfl, rfl, rfl, rfl, rfl, rfl⟩

theorem State.SameOutside.trans {s t u : State} (h : s.SameOutside t) (k : t.SameOutside u) : s.SameOutside u :=
  ⟨k.cmd.trans h.cmd, k.key.trans h.key, k.busy.trans h.busy, k.program.trans h.program, k.schedule.trans h.schedule,
    k.rdata.trans h.rdata, k.draws.trans h.draws⟩

theorem State.record_sameOutside (e : ErrCode) (s : State) : s.SameOutside (s.record e) :=
  ⟨rfl, rfl, Status.record_busy e s.status, rfl, rfl, rfl, rfl⟩

theorem State.openIfNeeded_sameOutside (s : State) : s.SameOutside s.openIfNeeded := by
  cases h : s.status.seq
  · rw [State.openIfNeeded_of_not_seq h]; exact ⟨rfl, rfl, rfl, rfl, rfl, rfl, rfl⟩
  · rw [State.openIfNeeded_of_seq h]; exact .refl s

/-- A result is a next state that leaves everything outside the block, CMD, KEY and BUSY alone. -/
def Result.Completes (s : State) (r : Result) : Prop := ∃ t, r = .next t ∧ s.SameOutside t

theorem raise_completes (e : ErrCode) (s : State) : Result.Completes s (raise e s) :=
  ⟨_, rfl, s.record_sameOutside e⟩

theorem transformData_completes (f : Block → Block) (s : State) : Result.Completes s (transformData f s) :=
  ⟨_, rfl, ⟨rfl, rfl, rfl, rfl, rfl, rfl, rfl⟩⟩

theorem byteResult_completes (b : Byte) (s : State) : Result.Completes s (byteResult b s) :=
  ⟨_, rfl, ⟨rfl, rfl, rfl, rfl, rfl, rfl, rfl⟩⟩

theorem chainResult_completes (b c : Block) (s : State) : Result.Completes s (chainResult b c s) :=
  ⟨_, rfl, ⟨rfl, rfl, rfl, rfl, rfl, rfl, rfl⟩⟩

theorem withSchedule_completes {s : State} {r : Result} (h : Result.Completes s r) :
    Result.Completes s (withSchedule s r) := by
  cases k : s.status.kvalid
  · rw [withSchedule_of_not_kvalid k]; exact raise_completes _ s
  · rw [withSchedule_of_kvalid k]; exact h

theorem Result.Completes.ofOpen {s : State} {r : Result} (h : Result.Completes s.openIfNeeded r) :
    Result.Completes s r := by
  obtain ⟨t, rfl, h⟩ := h
  exact ⟨t, rfl, s.openIfNeeded_sameOutside.trans h⟩

theorem setRk_setStatus_sameOutside {s : State} (k : Vector Word 60) {u : Status} (h : u.busy = s.status.busy) :
    s.SameOutside ((s.setRk k).setStatus u) := ⟨rfl, rfl, h, rfl, rfl, rfl, rfl⟩

theorem execKeyexp_completes (klen : BitVec 2) (s : State) : Result.Completes s (execKeyexp klen s) := by
  rw [execKeyexp]
  split
  · exact ⟨_, rfl, setRk_setStatus_sameOutside _ (Status.validSchedule_busy ..)⟩
  · exact ⟨_, rfl, (setRk_setStatus_sameOutside _ (Status.noSchedule_busy _)).trans (State.record_sameOutside _ _)⟩

theorem execAddrk_completes (ridx : BitVec 4) (s : State) : Result.Completes s (execAddrk ridx s) := by
  apply withSchedule_completes
  split
  · exact transformData_completes _ s
  · exact raise_completes _ s

theorem execGftab_completes (a : Byte) (tsel : BitVec 3) (s : State) : Result.Completes s (execGftab a tsel s) := by
  rw [execGftab]
  split
  · exact byteResult_completes _ s
  · exact raise_completes _ s

/-- Every command completes: no command faults and none is refused. -/
theorem exec_completes (i : Instr) (s : State) : Result.Completes s (exec i s) := by
  cases i with
  | nop => exact ⟨s, rfl, .refl s⟩
  | seqinit | seqend => exact ⟨_, rfl, ⟨rfl, rfl, rfl, rfl, rfl, rfl, rfl⟩⟩
  | keyexp klen => exact execKeyexp_completes klen s
  | encblk | decblk | mencEcb | mdecEcb => exact withSchedule_completes (transformData_completes _ s)
  | mencCbc | mdecCbc | mencCfb | mdecCfb =>
    exact withSchedule_completes (Result.Completes.ofOpen (chainResult_completes _ _ _))
  | mencMode3 | mdecMode3 => exact raise_completes _ s
  | subb | invsubb | shrow | invshrow | mixcol | invmixcol => exact transformData_completes _ s
  | addrk ridx => exact execAddrk_completes ridx s
  | gfmul | sbox | invsbox => exact byteResult_completes _ s
  | gftab a tsel => exact execGftab_completes a tsel s

theorem execute_completes (w : Word) (s : State) : Result.Completes s (execute w s) := by
  rw [execute]
  split
  · exact exec_completes _ s
  · exact raise_completes _ s

/-! ## Turns -/

/-- What a completion is: the command's effect, then BUSY's fall. -/
theorem complete_eq {s t : State} (h : complete s = .next t) : ∃ u, execute s.cmd s = .next u ∧ t = u.endCommand := by
  obtain ⟨u, hu, -⟩ := execute_completes s.cmd s
  rw [complete, hu] at h
  exact ⟨u, hu, (Host.Outcome.next.inj h).symm⟩

/-- A completion always answers next, with BUSY = 0 (R122, R128). -/
theorem complete_next (s : State) : ∃ t, complete s = .next t ∧ t.status.busy = false := by
  obtain ⟨u, hu, -⟩ := execute_completes s.cmd s
  exact ⟨u.endCommand, by rw [complete, hu], rfl⟩

theorem engineTurn_of_busy {s : State} (h : s.status.busy = true) : engineTurn s = complete s := by
  simp [engineTurn, h]

theorem engineTurn_of_idle {s : State} (h : s.status.busy = false) : engineTurn s = .next s := by
  simp [engineTurn, h]

@[simp] theorem resetTurn_alone (s : State) : resetTurn false s = s.resetRegisters := rfl

/-- A bus operation of the HOST always answers next. -/
theorem hostTurn_of_bus {s : State} {b : BusOp} {rest : List HostOp} (h : s.program = .bus b :: rest) :
    hostTurn s = .next (b.perform rest s) := by
  rw [hostTurn, h]; rfl

/-- What a HOST turn can do when it answers next: nothing left to do, or one bus operation. -/
theorem hostTurn_cases {s t : State} (h : hostTurn s = .next t) :
    (s.program = [] ∧ t = s) ∨
    ∃ op rest b, s.program = op :: rest ∧ op.onBus = .next b ∧ t = b.perform rest s := by
  rw [hostTurn] at h
  split at h
  · next hp => exact .inl ⟨hp, (Host.Outcome.next.inj h).symm⟩
  · next op rest hp =>
    split at h
    · next b hb => exact .inr ⟨op, rest, b, hp, hb, (Host.Outcome.next.inj h).symm⟩
    · cases h
    · cases h

/-- What an access presented in a reset cycle does: the reset, with the access off the program (R280). -/
theorem BusOp.duringReset_eq (op : BusOp) (rest : List HostOp) (s : State) :
    ∃ r, op.duringReset rest s = { s.resetRegisters with program := rest, rdata := r } := by
  cases op with
  | rd a => exact ⟨_, rfl⟩
  | wr a v => exact ⟨s.rdata, rfl⟩
  | wait => exact ⟨_, rfl⟩

/-- Everything a RESET turn can do: the reset of the registers, with or without an access taken off the program. -/
theorem resetTurn_eq (a : Bool) (s : State) :
    ∃ p r, resetTurn a s = { s.resetRegisters with program := p, rdata := r } := by
  rw [resetTurn]
  split
  · split
    · exact ⟨s.program, s.rdata, rfl⟩
    · next op rest _ =>
      split
      · next b _ =>
        obtain ⟨r, hr⟩ := BusOp.duringReset_eq b rest s
        exact ⟨_, r, hr⟩
      · exact ⟨s.program, s.rdata, rfl⟩
      · exact ⟨s.program, s.rdata, rfl⟩
  · exact ⟨s.program, s.rdata, rfl⟩

/-- A step whose turn is RESET's always answers next (R282). -/
theorem step_reset {a : Bool} {s : State} (h : s.nextAgent = .reset a) : step s = .next (resetTurn a s.beginTurn) := by
  rw [step, h, turn]

/-- A step is the turn of its agent (R9). -/
theorem step_cases {s t : State} (h : step s = .next t) :
    (s.nextAgent = .host ∧ hostTurn s.beginTurn = .next t) ∨
    (s.nextAgent = .engine ∧ engineTurn s.beginTurn = .next t) ∨
    (∃ a, s.nextAgent = .reset a ∧ t = resetTurn a s.beginTurn) := by
  rw [step] at h
  cases k : s.nextAgent with
  | host => rw [k] at h; exact .inl ⟨rfl, h⟩
  | engine => rw [k] at h; exact .inr (.inl ⟨rfl, h⟩)
  | reset a => rw [k] at h; exact .inr (.inr ⟨a, rfl, (Host.Outcome.next.inj h).symm⟩)

/-- The step after withFetchWord completes the word (R122). -/
theorem step_inFlight (v : Word) (s : State) : step (s.inFlight v) = complete { s.accept v with rdata := none } := rfl

end Sys2Proof.Machine
end

