-- ==== Sys2Proof/Laws/PerInstr.lean ====
section
/-! SUPPORT. A fact of every command as syntax, one lemma per constructor: the low byte of its word is its opcode (R91, R100). -/

namespace Sys2Proof.Laws.Opcode

/-- Field OP of the command's word is the command's opcode. -/
def Statement (i : Instr) : Prop := opcodeField (encode i) = opcodeOf i

theorem nop : Statement .nop := by unfold Statement; decide
theorem keyexp (klen : BitVec 2) : Statement (.keyexp klen) := by unfold Statement; revert klen; decide
theorem seqinit : Statement .seqinit := by unfold Statement; decide
theorem seqend : Statement .seqend := by unfold Statement; decide
theorem encblk : Statement .encblk := by unfold Statement; decide
theorem decblk : Statement .decblk := by unfold Statement; decide
theorem mencEcb : Statement .mencEcb := by unfold Statement; decide
theorem mdecEcb : Statement .mdecEcb := by unfold Statement; decide
theorem mencCbc : Statement .mencCbc := by unfold Statement; decide
theorem mdecCbc : Statement .mdecCbc := by unfold Statement; decide
theorem mencCfb : Statement .mencCfb := by unfold Statement; decide
theorem mdecCfb : Statement .mdecCfb := by unfold Statement; decide
theorem mencMode3 : Statement .mencMode3 := by unfold Statement; decide
theorem mdecMode3 : Statement .mdecMode3 := by unfold Statement; decide
theorem subb : Statement .subb := by unfold Statement; decide
theorem invsubb : Statement .invsubb := by unfold Statement; decide
theorem shrow : Statement .shrow := by unfold Statement; decide
theorem invshrow : Statement .invshrow := by unfold Statement; decide
theorem mixcol : Statement .mixcol := by unfold Statement; decide
theorem invmixcol : Statement .invmixcol := by unfold Statement; decide
theorem addrk (ridx : BitVec 4) : Statement (.addrk ridx) := by unfold Statement; revert ridx; decide

/-- The low byte of a concatenation that ends in a byte. -/
theorem low_byte {n : Nat} (x : BitVec n) (op : Byte) : (x ++ op).extractLsb' 0 8 = op := by
  ext i hi
  simp [BitVec.getLsbD_append, hi]

theorem gfmul (a b : Byte) : Statement (.gfmul a b) := low_byte _ _
theorem gftab (a : Byte) (tsel : BitVec 3) : Statement (.gftab a tsel) := low_byte _ _
theorem sbox (a : Byte) : Statement (.sbox a) := low_byte _ _
theorem invsbox (a : Byte) : Statement (.invsbox a) := low_byte _ _

end Sys2Proof.Laws.Opcode
end

