-- ==== Sys2Proof/Tests/Slice0.lean ====
section
/-! SUPPORT. The model's own tests. Expected values are the spec's: the word layouts of 30_encoding.md, the examples of the command
rules and the vectors of 95_test_vectors.md. The witnesses at the end show a concrete case that meets the hypotheses of
each statement. -/

namespace Sys2Proof.Tests
open Sys2Proof Sys2Proof.Machine

/-! ## Helpers -/

/-- The next state of a result, if there is one. -/
def nextOf : Result → Option State
  | .next t => some t
  | .fault _ | .refused _ => none

/-- Vector D6: the schedule of key 000102..0f, RK0..RK43. -/
def schedAWords : List Word :=
  [ 0x00010203, 0x04050607, 0x08090a0b, 0x0c0d0e0f,
    0xd6aa74fd, 0xd2af72fa, 0xdaa678f1, 0xd6ab76fe,
    0xb692cf0b, 0x643dbdf1, 0xbe9bc500, 0x6830b3fe,
    0xb6ff744e, 0xd2c2c9bf, 0x6c590cbf, 0x0469bf41,
    0x47f7f7bc, 0x95353e03, 0xf96c32bc, 0xfd058dfd,
    0x3caaa3e8, 0xa99f9deb, 0x50f3af57, 0xadf622aa,
    0x5e390f7d, 0xf7a69296, 0xa7553dc1, 0x0aa31f6b,
    0x14f9701a, 0xe35fe28c, 0x440adf4d, 0x4ea9c026,
    0x47438735, 0xa41c65b9, 0xe016baf4, 0xaebf7ad2,
    0x549932d1, 0xf0855768, 0x1093ed9c, 0xbe2c974e,
    0x13111d7f, 0xe3944a17, 0xf307a78b, 0x4d2b30c5 ]

/-- Vector D6: the schedule of key 2b7e1516.., RK0..RK43. -/
def schedBWords : List Word :=
  [ 0x2b7e1516, 0x28aed2a6, 0xabf71588, 0x09cf4f3c,
    0xa0fafe17, 0x88542cb1, 0x23a33939, 0x2a6c7605,
    0xf2c295f2, 0x7a96b943, 0x5935807a, 0x7359f67f,
    0x3d80477d, 0x4716fe3e, 0x1e237e44, 0x6d7a883b,
    0xef44a541, 0xa8525b7f, 0xb671253b, 0xdb0bad00,
    0xd4d1c6f8, 0x7c839d87, 0xcaf2b8bc, 0x11f915bc,
    0x6d88a37a, 0x110b3efd, 0xdbf98641, 0xca0093fd,
    0x4e54f70e, 0x5f5fc9f3, 0x84a64fb2, 0x4ea6dc4f,
    0xead27321, 0xb58dbad2, 0x312bf560, 0x7f8d292f,
    0xac7766f3, 0x19fadc21, 0x28d12941, 0x575c006e,
    0xd014f9a8, 0xc9ee2589, 0xe13f0cc8, 0xb6630ca6 ]

/-- The state after KEYEXP K128 with a given schedule, with given DATA and CHAIN; SEQ is open. -/
def keyed (rk : List Word) (data chain : Group128) : State :=
  { State.reset with
    rk := rkOfWords rk
    data := data
    chain := chain
    status := { Status.reset with kvalid := true, seq := true, nr := 10 } }

/-- 00112233 44556677 8899aabb ccddeeff. -/
def plain : Group128 := #v[0x00112233, 0x44556677, 0x8899aabb, 0xccddeeff]

/-- 00010203 04050607 08090a0b 0c0d0e0f. -/
def ramp : Group128 := #v[0x00010203, 0x04050607, 0x08090a0b, 0x0c0d0e0f]

/-- 6bc1bee2 2e409f96 e93d7e11 7393172a. -/
def plainB : Group128 := #v[0x6bc1bee2, 0x2e409f96, 0xe93d7e11, 0x7393172a]

/-- A reset state with the given command word in flight. -/
def busyWith (w : Word) : State := { State.reset with cmd := w, status := { Status.reset with busy := true } }

/-- DATA after a command. -/
def dataAfter (i : Instr) (s : State) : Option Group128 := (nextOf (exec i s)).map (·.data)

/-- CHAIN after a command. -/
def chainAfter (i : Instr) (s : State) : Option Group128 := (nextOf (exec i s)).map (·.chain)

/-- RES after a command. -/
def resAfter (i : Instr) (s : State) : Option Word := (nextOf (exec i s)).map (·.res)

/-- The STATUS word after a command. -/
def statusAfter (i : Instr) (s : State) : Option Word := (nextOf (exec i s)).map (·.status.toWord)

/-! ## WellFormed: the one check, and the decoder's refusal of the same words -/

theorem test_wellFormed_gftab_tsel_5 : (Instr.gftab 0x57 5).wellFormed = true := by decide
theorem test_wellFormed_gftab_tsel_6 : (Instr.gftab 0x57 6).wellFormed = false := by decide
theorem test_wellFormed_gftab_tsel_7 : (Instr.gftab 0x57 7).wellFormed = false := by decide
theorem test_decode_gftab_tsel_6 : decode 0x00060031 = .error .reservedTable := by decide

/-! ## Decoding: a word written out from its format, for every constructor (R92 to R105) -/

theorem test_decode_nop : decode 0x00000000 = .ok .nop := by decide
theorem test_decode_keyexp : decode 0b00000000000000000000001000000001 = .ok (.keyexp 2) := by decide
theorem test_decode_seqinit : decode 0x00000002 = .ok .seqinit := by decide
theorem test_decode_seqend : decode 0x00000003 = .ok .seqend := by decide
theorem test_decode_encblk : decode 0x00000008 = .ok .encblk := by decide
theorem test_decode_decblk : decode 0x00000009 = .ok .decblk := by decide
theorem test_decode_mencEcb : decode 0x00000010 = .ok .mencEcb := by decide
theorem test_decode_mdecEcb : decode 0x00000011 = .ok .mdecEcb := by decide
theorem test_decode_mencCbc : decode 0b00000000000000000000000100010000 = .ok .mencCbc := by decide
theorem test_decode_mdecCbc : decode 0x00000111 = .ok .mdecCbc := by decide
theorem test_decode_mencCfb : decode 0x00000210 = .ok .mencCfb := by decide
theorem test_decode_mdecCfb : decode 0x00000211 = .ok .mdecCfb := by decide
theorem test_decode_mencMode3 : decode 0x00000310 = .ok .mencMode3 := by decide
theorem test_decode_mdecMode3 : decode 0x00000311 = .ok .mdecMode3 := by decide
theorem test_decode_subb : decode 0b00000000000000000000000000100000 = .ok .subb := by decide
theorem test_decode_invsubb : decode 0x00000021 = .ok .invsubb := by decide
theorem test_decode_shrow : decode 0x00000022 = .ok .shrow := by decide
theorem test_decode_invshrow : decode 0x00000023 = .ok .invshrow := by decide
theorem test_decode_mixcol : decode 0x00000024 = .ok .mixcol := by decide
theorem test_decode_invmixcol : decode 0x00000025 = .ok .invmixcol := by decide
theorem test_decode_addrk : decode 0b00000000000000000000101000100110 = .ok (.addrk 10) := by decide
theorem test_decode_gfmul : decode 0b00000000100000110101011100110000 = .ok (.gfmul 0x57 0x83) := by decide
theorem test_decode_gftab : decode 0b00000000000001010101011100110001 = .ok (.gftab 0x57 5) := by decide
theorem test_decode_sbox : decode 0b00000000000000000101001100110010 = .ok (.sbox 0x53) := by decide
theorem test_decode_invsbox : decode 0x0000ED33 = .ok (.invsbox 0xED) := by decide
theorem test_decode_undefined : decode 0x000000FF = .error .undefinedOpcode := by decide
theorem test_decode_reserved_bit : decode 0x00000401 = .error .reservedBitSet := by decide
theorem test_decodeTableWord_addrk : decodeTableWord 32 0x00000A26 = some (.addrk 10) := by decide

/-! ## The tables (R153, R156, R157, R170) -/

theorem test_sbox_corner : sbox 0x00 = 0x63 ∧ sbox 0xFF = 0x16 ∧ invSbox 0x00 = 0x52 := by decide
theorem test_rcon_doubles : ∀ j : Fin 9, rcon (j.val + 1) = gfMul 2 (rcon j.val) := by decide

/-! ## Commands: the examples of their rules and of 95_test_vectors.md -/

theorem test_nop : nextOf (exec .nop State.reset) = some State.reset := by decide

-- R176, D6: every word of the schedule, the words above it zero, and the STATUS word.
theorem test_keyexp_schedule :
    (nextOf (exec (.keyexp 0) { State.reset with key := #v[0x00010203, 0x04050607, 0x08090a0b, 0x0c0d0e0f, 5, 6, 7, 8] })).map
      (fun t => (t.rk, t.status.toWord)) = some (rkOfWords schedAWords, 0x0000A002) := by decide

-- R177, D19.
theorem test_keyexp_reserved :
    (nextOf (exec (.keyexp 3) { keyed schedAWords plain plain with status := { Status.reset with kvalid := true, nr := 10 } })).map
      (fun t => (t.rk, t.status.toWord)) = some (rkZero, 0x00000014) := by decide

-- D18.
theorem test_seqinit :
    (nextOf (exec .seqinit { State.reset with iv := ramp })).map (fun t => (t.chain, t.status.toWord)) =
      some (ramp, 0x00000008) := by decide
theorem test_seqend :
    (nextOf (exec .seqend { keyed [] plain ramp with iv := ramp })).map (fun t => (t.chain, t.iv, t.status.seq)) =
      some (zeroGroup, zeroGroup, false) := by decide

-- D4, and the examples of R202, R203 (a row-position probe) and R204, R205.
theorem test_subb : dataAfter .subb { State.reset with data := plain } =
    some #v[0x638293c3, 0x1bfc33f5, 0xc4eeacea, 0x4bc12816] := by decide
theorem test_invsubb : dataAfter .invsubb { State.reset with data := plain } =
    some #v[0x52e39466, 0x86edd302, 0x97f962fe, 0x27c9997d] := by decide
theorem test_shrow : dataAfter .shrow { State.reset with data := ramp } =
    some #v[0x00050a0f, 0x04090e03, 0x080d0207, 0x0c01060b] := by decide
theorem test_invshrow : dataAfter .invshrow { State.reset with data := ramp } =
    some #v[0x000d0a07, 0x04010e0b, 0x0805020f, 0x0c090603] := by decide
theorem test_mixcol : dataAfter .mixcol { State.reset with data := #v[0xd4d4d4d5, 0x2d26314c, 0xd4bf5d30, 0xe0b452ae] } =
    some #v[0xd5d5d7d6, 0x4d7ebdf8, 0x046681e5, 0xe0cb199a] := by decide
theorem test_invmixcol : dataAfter .invmixcol { State.reset with data := #v[0x8e4da1bc, 0x9fdc589d, 0x01010101, 0xc6c6c6c6] } =
    some #v[0xdb135345, 0xf20a225c, 0x01010101, 0xc6c6c6c6] := by decide

-- D10.
theorem test_addrk_10 : dataAfter (.addrk 10) (keyed schedAWords plain zeroGroup) =
    some #v[0x13003f4c, 0xa7c12c60, 0x7b9e0d30, 0x81f6de3a] := by decide
theorem test_addrk_11 : (nextOf (exec (.addrk 11) { keyed schedAWords plain zeroGroup with
      status := { Status.reset with kvalid := true, nr := 10 } })).map (fun t => (t.data, t.status.toWord)) =
    some (plain, 0x0000A036) := by decide

-- D1, D2, D3.
theorem test_gfmul : resAfter (.gfmul 0x57 0x83) State.reset = some 0x000000C1 := by decide
theorem test_gftab : resAfter (.gftab 0x57 5) State.reset = some 0x00000067 := by decide
theorem test_sbox : resAfter (.sbox 0x53) State.reset = some 0x000000ED := by decide
theorem test_invsbox : resAfter (.invsbox 0x16) State.reset = some 0x000000FF := by decide

-- V1, D9, D12.
set_option maxRecDepth 100000 in
theorem test_encblk : dataAfter .encblk (keyed schedAWords plain zeroGroup) =
    some #v[0x69c4e0d8, 0x6a7b0430, 0xd8cdb780, 0x70b4c55a] := by decide
set_option maxRecDepth 100000 in
theorem test_decblk : dataAfter .decblk (keyed schedAWords #v[0x69c4e0d8, 0x6a7b0430, 0xd8cdb780, 0x70b4c55a] zeroGroup) =
    some plain := by decide
set_option maxRecDepth 100000 in
theorem test_mencEcb : dataAfter .mencEcb (keyed schedBWords plainB ramp) =
    some #v[0x3ad77bb4, 0x0d7a3660, 0xa89ecaf3, 0x2466ef97] := by decide
set_option maxRecDepth 100000 in
theorem test_mdecEcb : dataAfter .mdecEcb (keyed schedBWords #v[0x3ad77bb4, 0x0d7a3660, 0xa89ecaf3, 0x2466ef97] ramp) =
    some plainB := by decide
set_option maxRecDepth 100000 in
theorem test_mencCbc : dataAfter .mencCbc (keyed schedBWords plainB ramp) =
    some #v[0x7649abac, 0x8119b246, 0xcee98e9b, 0x12e9197d] := by decide
set_option maxRecDepth 100000 in
theorem test_mdecCbc : dataAfter .mdecCbc (keyed schedBWords #v[0x7649abac, 0x8119b246, 0xcee98e9b, 0x12e9197d] ramp) =
    some plainB := by decide
theorem test_mdecCbc_chain : chainAfter .mdecCbc (keyed schedBWords #v[0x7649abac, 0x8119b246, 0xcee98e9b, 0x12e9197d] ramp) =
    some #v[0x7649abac, 0x8119b246, 0xcee98e9b, 0x12e9197d] := by decide
set_option maxRecDepth 100000 in
theorem test_mencCfb : dataAfter .mencCfb (keyed schedBWords plainB ramp) =
    some #v[0x3b3fd92e, 0xb72dad20, 0x333449f8, 0xe83cfb4a] := by decide
set_option maxRecDepth 100000 in
theorem test_mdecCfb : dataAfter .mdecCfb (keyed schedBWords #v[0x3b3fd92e, 0xb72dad20, 0x333449f8, 0xe83cfb4a] ramp) =
    some plainB := by decide
theorem test_mdecCfb_chain : chainAfter .mdecCfb (keyed schedBWords #v[0x3b3fd92e, 0xb72dad20, 0x333449f8, 0xe83cfb4a] ramp) =
    some #v[0x3b3fd92e, 0xb72dad20, 0x333449f8, 0xe83cfb4a] := by decide

-- D19: the reserved modes without a schedule, and a mode command without one.
theorem test_mencMode3 : statusAfter .mencMode3 State.reset = some 0x00000024 := by decide
theorem test_mdecMode3 : statusAfter .mdecMode3 State.reset = some 0x00000024 := by decide
theorem test_mencCbc_no_key : statusAfter .mencCbc State.reset = some 0x00000034 := by decide

/-! ## Steps: D20, D21 and R122 -/

theorem test_step_runs_fetched_word :
    (nextOf (step (State.reset.withFetchWord 32 0x00835730))).map (fun t => (t.res, t.status.toWord, t.schedule)) =
      some (0x000000C1, 0x00000000, []) := by decide
theorem test_step_illegal_word : (nextOf (step (State.reset.withFetchWord 32 0x00000710))).map (·.status.toWord) =
    some 0x00000044 := by decide
theorem test_busy_write : (nextOf (hostTurn { busyWith 8 with program := [.bus (.wr 4 0xdeadbeef)] })).map
    (fun t => (t.data, t.status.toWord)) = some (zeroGroup, 0x00000055) := by decide
theorem test_wait_stays : (nextOf (hostTurn { busyWith 8 with program := [.bus .wait] })).map (·.program) =
    some [.bus .wait] := by decide
theorem test_reset_abandons : (nextOf (step { busyWith 8 with schedule := [.reset false] })) = some State.reset := by decide
theorem test_expand_ldblk : (HostLine.ldblk (blk plain)).expand =
    some [.bus (.wr 4 0x00112233), .bus (.wr 5 0x44556677), .bus (.wr 6 0x8899aabb), .bus (.wr 7 0xccddeeff)] := by decide
theorem test_assemble_addrk_16 : (AsmLine.addrk 16).assemble = none := by decide

/-! ## Witnesses: a concrete case that meets the hypotheses of each statement that has some -/

/-- A keyed state, SEQ closed, for the statements that need a schedule. -/
def ready : State :=
  { keyed schedAWords plain zeroGroup with iv := ramp, status := { Status.reset with kvalid := true, nr := 10 } }

/-- A state with one HOST operation queued. -/
def hosting (s : State) (op : HostOp) : State := { s with program := [op] }

theorem witness_DecodeOfEncodeIsTheCommand : (Instr.gftab 0xFF 5).wellFormed = true := by decide
theorem witness_EncodeOfDecodeIsTheWord : decode 0x0005FF31 = .ok (.gftab 0xFF 5) := by decide

theorem witness_EngineTurnCompletesTheDecodedCommand :
    ((busyWith 0x00000020).schedule.head? = some .engine ∨ (busyWith 0x00000020).schedule = []) ∧
    (busyWith 0x00000020).status.busy = true ∧ decode (busyWith 0x00000020).cmd = .ok .subb := by decide
theorem witness_EngineTurnCompletesTheDecodedCommand_scheduled :
    ({ busyWith 0x00000020 with schedule := [.engine] }.schedule.head? = some .engine) ∧
    ({ State.reset with schedule := [.engine] }.schedule.head? = some .engine) ∧ State.reset.status.busy = false := by decide
theorem witness_IllegalWordOnlyRecordsIllegalCommand :
    { busyWith 0x00000100 with schedule := [.engine] }.schedule.head? = some .engine ∧
    (busyWith 0x00000100).status.busy = true ∧ decode (busyWith 0x00000100).cmd = .error .reservedBitSet := by decide
theorem witness_IdleCmdWriteIsAccepted :
    State.reset.status.busy = false ∧ (hosting State.reset (.bus (.wr 0 0xFF))).program = .bus (.wr 0 0xFF) :: [] := by decide
-- writable 0, 1, 4, 11, 16, 23; not writable 2, 3, 12, 15, 24, 64, 123, 1023
theorem witness_WriteWhileBusyIsDroppedAndRecorded :
    (busyWith 8).status.busy = true ∧ (hosting (busyWith 8) (.bus (.wr 23 1))).program = .bus (.wr 23 1) :: [] ∧
    [0, 1, 4, 11, 16, 23].all writableIndex = true ∧
    [2, 3, 12, 15, 24, 64, 123, 1023].all (fun n => !writableIndex n) = true := by decide
theorem witness_IdleWritesStoreOnlyTheirWord :
    State.reset.status.busy = false ∧ (hosting State.reset (.bus (.wr 7 1))).program = .bus (.wr 7 1) :: [] ∧
    (4#10).toNat = 4 + (0 : Fin 4).val ∧ (7#10).toNat = 4 + (3 : Fin 4).val ∧ (8#10).toNat = 8 + (0 : Fin 4).val ∧
    (11#10).toNat = 8 + (3 : Fin 4).val ∧ (16#10).toNat = 16 + (0 : Fin 8).val ∧ (23#10).toNat = 16 + (7 : Fin 8).val ∧
    writableIndex (12#10).toNat = false ∧ writableIndex (1023#10).toNat = false := by decide
theorem witness_StatusWriteClearsOnlyTheErrorRecord :
    (hosting State.reset (.bus (.wr 1 4))).program = .bus (.wr 1 4) :: [] ∧ (4#32).getLsbD 2 = true ∧
    (0xFFFFFFFB#32).getLsbD 2 = false ∧ State.reset.status.busy = false ∧ (busyWith 8).status.busy = true := by decide
theorem witness_IdleReadsReturnTheWindow :
    State.reset.status.busy = false ∧ (hosting State.reset (.bus (.rd 123))).program = .bus (.rd 123) :: [] := by decide
theorem witness_BusyReadsDrawExactlyTheDestinations :
    (busyWith 0x00000001).status.busy = true ∧
    (hosting (busyWith 0x00000001) (.bus (.rd 123))).program = .bus (.rd 123) :: [] ∧
    decode (busyWith 0x00000001).cmd = .ok (.keyexp 0) ∧
    drawnIndex (.keyexp 0) 64 = true ∧ drawnIndex (.keyexp 0) 123 = true ∧ drawnIndex (.keyexp 0) 63 = false ∧
    drawnIndex (.keyexp 0) 124 = false ∧ drawnIndex (.keyexp 0) 1 = false ∧
    decode (busyWith 0x00000100).cmd = .error .reservedBitSet := by decide
theorem witness_WaitEndsExactlyWhenNoCommandIsInFlight :
    (hosting (busyWith 8) (.bus .wait)).program = .bus .wait :: [] := by decide

theorem witness_PlatformAccessesMapOrStop_index :
    Config.aesBase + 4092 = Config.aesBase + 4 * (1023#10).toNat ∧
    (hosting State.reset (.platformRd (Config.aesBase + 4092) 4)).program = .platformRd (Config.aesBase + 4092) 4 :: [] ∧
    (hosting State.reset (.platformWr Config.aesBase 4 7)).program = .platformWr Config.aesBase 4 7 :: [] :=
  ⟨rfl, rfl, rfl⟩
theorem witness_PlatformAccessesMapOrStop_stops (v : Word) :
    (hosting State.reset (.platformWr (Config.aesBase + 4096) 4 v)).program =
      .platformWr (Config.aesBase + 4096) 4 v :: [] ∧
    Config.aesBase + 4096 ≤ Config.aesBase + 4096 ∧
    (Config.aesBase ≤ Config.aesBase + 4095 ∧ Config.aesBase + 4095 < Config.aesBase + 4096 ∧
      (Config.aesBase + 4095 - Config.aesBase) % 4 ≠ 0 ∧ (2 : Nat) ≠ 4) :=
  ⟨rfl, Nat.le_refl _, by omega⟩

theorem witness_EveryCommandInFlightCompletes :
    { hosting (busyWith 8) (.bus .wait) with schedule := [.host, .host] }.status.busy = true ∧
    ∀ op ∈ (hosting (busyWith 8) (.bus .wait)).program, op.isBus = true := by decide
theorem witness_EveryCommandInFlightCompletes_no_reset :
    ∀ h : Bool, Agent.reset h ∉ ({ busyWith 8 with schedule := [.host, .host] } : State).schedule := by decide
theorem witness_HostTurnsKeepTheCommandInFlight :
    (busyWith 8).status.busy = true ∧ (nextOf (hostTurn (hosting (busyWith 8) (.bus (.wr 4 1))))).isSome = true := by decide
theorem witness_ResetTurnZeroesEveryRegister :
    { busyWith 8 with schedule := [.reset false] }.schedule = .reset false :: [] ∧
    { hosting (busyWith 8) (.bus (.rd 4)) with schedule := [.reset true] }.schedule = .reset true :: [] ∧
    (hosting (busyWith 8) (.bus (.rd 4))).program = .bus (.rd 4) :: [] ∧
    (hosting (busyWith 8) (.bus (.wr 4 1))).program = .bus (.wr 4 1) :: [] := by decide
-- an address just outside the window reaches no word index
theorem witness_ResetTurnZeroesEveryRegister_no_access :
    (hosting (busyWith 8) (.platformRd (Config.aesBase + 4096) 4)).program =
      .platformRd (Config.aesBase + 4096) 4 :: [] ∧
    ∀ b, (HostOp.platformRd (Config.aesBase + 4096) 4).onBus ≠ .next b := by
  refine ⟨rfl, fun b => ?_⟩
  simp [HostOp.onBus, platformIndex]
theorem witness_FirstErrorIsKept :
    State.reset.status.err = false ∧ (State.reset.record .busyWrite).status.err = true := by decide
theorem witness_CommandsWithoutTheirRoundKeyOnlyRecordIt :
    State.reset.status.kvalid = false ∧ ready.status.kvalid = true ∧ ready.status.nr.toNat < (11#4).toNat := by decide
theorem witness_ErrorRecordEndsOnlyByClearOrReset :
    (nextOf (step (hosting (State.reset.record .busyWrite) (.bus (.wr 1 4))))).isSome = true ∧
    (hosting (State.reset.record .busyWrite) (.bus (.wr 1 4))).status.err = true := by decide
theorem witness_KeyexpExpandsTheKey :
    ((2#2 = 0 ∧ 8 = 4 ∧ 14 = 10) ∨ (2#2 = 1 ∧ 8 = 6 ∧ 14 = 12) ∨ (2#2 = 2 ∧ 8 = 8 ∧ 14 = 14)) ∧
    (59 : Fin 60).val < 4 * (14 + 1) ∧ (58 : Fin 60).val + 1 = (59 : Fin 60).val ∧
    (51 : Fin 60).val + 8 = (59 : Fin 60).val ∧ 4 * (10 + 1) ≤ (44 : Fin 60).val := by decide
theorem witness_HostTurnPerformsTheNextOperation :
    ({ busyWith 8 with schedule := [.host] } : State).schedule.head? = some .host ∧
    State.reset.schedule = [] ∧ State.reset.status.busy = false := by decide
theorem witness_KeyexpIgnoresKeyWordsAboveNk :
    keyShape 0 = some (4, 10) ∧
    ∀ j : Fin 8, j.val < 4 → (#v[0, 0, 0, 0, 5, 6, 7, 8] : Vector Word 8)[j] = State.reset.key[j] := by decide
theorem witness_AddrkXorsTheRoundKey :
    ready.status.kvalid = true ∧ ready.status.nr.toNat ≤ 14 ∧ (10#4).toNat ≤ ready.status.nr.toNat ∧
    (43 : Fin 60).val = 4 * (10#4).toNat + (3 : Fin 4).val := by decide
theorem witness_ready_has_a_schedule : ready.status.kvalid = true ∧ ready.status.seq = false := by decide
theorem witness_BlockAndEcbCommandsTransformData : ready.status.kvalid = true := by decide
theorem witness_BlockCommandsAreTheirElementaryCommands : ready.status.kvalid = true := by decide
theorem witness_CbcCommandsChainTheCiphertext : ready.status.kvalid = true ∧ ready.chainingValue = ramp := by decide
theorem witness_CfbCommandsChainTheCiphertext : ready.status.kvalid = true ∧ ready.chainingValue = ramp := by decide
theorem witness_GftabAgreesWithGfmul : (5#3).toNat ≤ 5 ∧ 5 < (6#3).toNat := by decide
theorem witness_GfMulObeysTheFieldLaws : (0x53#8) ≠ 0 ∧ gfMul 0x53 0xCA = 1 := by decide
theorem witness_SboxIsTheAffineImageOfTheInverse : gfMul 0x53 0xCA = 1 ∧ sbox 0x53 = 0xED := by decide
theorem witness_SequencesObeyTheModeEquations : ready.status.kvalid = true := by decide
theorem witness_DecryptedSequencesAreTheInput :
    ready.status.kvalid = true ∧ ({ ready with chain := ramp, status := { ready.status with seq := true } } : State).chainingValue =
      ready.chainingValue := by decide
theorem witness_ChangedCiphertextSpoilsTwoBlocks :
    ready.status.kvalid = true ∧ 1 < [plain, ramp, plainB].length ∧
    ∃ j : Fin 4, (#v[0x80000000, 0, 0, 0] : Group128)[j] ≠ 0 := by decide
theorem witness_EveryStepKeepsTheInvariant :
    ready.Inv ∧ (nextOf (step (ready.withFetchWord 32 0x00000003))).isSome = true := by decide
theorem witness_CommandsWriteOnlyTheirDestinations :
    decode 0x00000003 = .ok .seqend ∧ drawnIndex .seqend 7 = false ∧ drawnIndex .seqend 16 = false ∧
    decode 0x00000004 = .error .undefinedOpcode := by decide
theorem witness_RegistersChangeOnlyByTheirWriters :
    (nextOf (step (hosting State.reset (.bus (.wr 16 1))))).map (fun t => t.windowWords.getD 16 0) = some 1 ∧
    State.reset.windowWords.getD 16 0 = 0 ∧ (16#10).toNat ≠ 1 := by decide
theorem witness_StatusFieldsChangeOnlyByTheirWriters :
    (nextOf (step (hosting State.reset (.bus (.wr 0 2))))).map (·.status.busy) = some true ∧
    (nextOf (step (State.reset.withFetchWord 32 0x00000002))).map (fun t => (t.status.busy, t.status.seq)) =
      some (false, true) := by decide

end Sys2Proof.Tests
end

section
/-! Whose turn a step is, read from the schedule, and what the HOST's turn then is. -/

namespace Sys2Proof.Machine

/-- R9: the first entry of a schedule has the turn. -/
theorem State.nextAgent_of_head? {s : State} {a : Agent} (h : s.schedule.head? = some a) : s.nextAgent = a := by
  obtain ⟨rest, hs⟩ := List.head?_eq_some_iff.mp h
  rw [State.nextAgent, hs]

/-- With no turn scheduled and no command in flight, the HOST has the turn (log 4). -/
theorem State.nextAgent_of_idle {s : State} (hs : s.schedule = []) (hb : s.status.busy = false) :
    s.nextAgent = .host := by
  simp [State.nextAgent, hs, hb]

/-- The step of a state in which the HOST has the turn is the HOST's turn (R9). -/
theorem step_host {s : State} (h : s.nextAgent = .host) : step s = hostTurn s.beginTurn := by
  rw [step, h, turn]

/-- Settles O56: the HOST has the turn in both cases of the premise, by its entry or by default. -/
theorem hostTurnPerformsTheNextOperation : Obligations.HostTurnPerformsTheNextOperation := by
  intro s h
  have hhost : s.nextAgent = .host := by
    rcases h with hhead | ⟨hempty, hidle⟩
    · exact State.nextAgent_of_head? hhead
    · exact State.nextAgent_of_idle hempty hidle
  exact step_host hhost

end Sys2Proof.Machine
end

section
/-! The window by register name: the word at an index, the one index of each named register, and the two readings of R121
and R124 (by register and by index) as one. -/

namespace Sys2Proof.Machine

/-- The word at index `n` of the window is the register that the register map names there (R51, R52). -/
theorem State.windowWords_getD (s : State) (n : Nat) : s.windowWords.getD n 0 = s.readReg (regAtNat n) := by
  rw [List.getD_eq_getElem?_getD, State.windowWords]
  simp only [List.getElem?_append, List.getElem?_replicate, List.length_append, List.length_cons, List.length_nil,
    Vector.length_toList, List.length_replicate]
  fun_cases regAtNat n
  case case1 | case2 | case3 | case4 => subst n; rfl
  all_goals simp (disch := omega) only [if_pos, if_neg, State.readReg]
  case case5 | case6 | case7 | case8 | case10 => simp (disch := omega)
  case case9 => rfl
  case case11 => split <;> rfl

/-- The register map has one index for each named register (R51, R106). -/
theorem regIndex_regAt {a : WindowIndex} (h : regAt a ≠ .reserved) : regIndex (regAt a) = some a := by
  revert h
  rw [regAt]
  fun_cases regAtNat a.toNat <;> simp [regIndex] <;> bv_omega

/-- Two indices of the same named register are one. -/
theorem eq_of_regAt_eq {a b : WindowIndex} (h : regAt a = regAt b) (ha : regAt a ≠ .reserved) : a = b :=
  Option.some.inj ((regIndex_regAt ha).symm.trans (h ▸ regIndex_regAt (h ▸ ha)))

/-- STATUS stands at index 1 only (R51). -/
theorem eq_one_of_regAt_status {a : WindowIndex} (h : regAt a = .status) : a = 1 :=
  eq_of_regAt_eq (h.trans (by decide)) (by simp [h])

/-- CMD stands at index 0 only (R51). -/
theorem eq_zero_of_regAt_cmd {a : WindowIndex} (h : regAt a = .cmd) : a = 0 :=
  eq_of_regAt_eq (h.trans (by decide)) (by simp [h])

/-- R121's writable indices are those of the writable registers. -/
theorem writableIndex_eq_regWritable (n : Nat) : writableIndex n = regWritable (regAtNat n) := by
  rw [writableIndex]
  fun_cases regAtNat n <;> simp [regWritable] <;> omega

/-- A set of destinations as index ranges of the register map (R51, R124). -/
theorem regIn_regAtNat (ds : List Dest) (n : Nat) :
    regIn ds (regAtNat n) =
      ((decide (n = 2) && ds.contains .res) || (decide (4 ≤ n ∧ n ≤ 7) && ds.contains .data) ||
        (decide (8 ≤ n ∧ n ≤ 11) && ds.contains .iv) || (decide (12 ≤ n ∧ n ≤ 15) && ds.contains .chain) ||
        (decide (64 ≤ n ∧ n ≤ 123) && ds.contains .rk)) := by
  fun_cases regAtNat n <;>
    simp (disch := omega) only [regIn, decide_eq_true, decide_eq_false, Bool.true_and, Bool.false_and, Bool.or_false,
      Bool.false_or]

/-- R124's destination sets, by register and by index. -/
theorem drawnIndex_eq_regIn (i : Instr) (n : Nat) : drawnIndex i n = regIn (destSet i) (regAtNat n) := by
  rw [regIn_regAtNat]
  cases i with
  | seqend => simp [drawnIndex, destSet, Bool.or_comm]
  | _ => simp [drawnIndex, destSet]

end Sys2Proof.Machine
end

section
/-! Everything a command, and everything a step, can do to the state, as two relations with one constructor per way. -/

namespace Sys2Proof.Machine

/-! ## Commands -/

/-- What each command can do to a state, with the destination set (R124) that allows it. -/
inductive CommandEffect (s : State) : Instr → State → Prop
  /-- NOP (R129). -/
  | nothing : CommandEffect s .nop s
  /-- A refused command leaves its error and nothing else (R254). -/
  | error {i : Instr} {e : ErrCode} (he : e ≠ .noError) : CommandEffect s i (s.record e)
  /-- KEYEXP of a key length (R176). -/
  | schedule {klen : BitVec 2} {nk nr : Nat} (h : keyShape klen = some (nk, nr)) :
      CommandEffect s (.keyexp klen)
        ((s.setRk (rkOfWords (expand (keyWords s.key nk) nk nr))).setStatus (s.status.validSchedule klen nr))
  /-- KEYEXP of the reserved key length (R177). -/
  | noSchedule {klen : BitVec 2} :
      CommandEffect s (.keyexp klen) (((s.setRk rkZero).setStatus s.status.noSchedule).record .unsupportedKeyLength)
  /-- SEQINIT (R220). -/
  | openSequence : CommandEffect s .seqinit ((s.setChain s.iv).setStatus (s.status.setSeq true))
  /-- SEQEND (R221). -/
  | closeSequence : CommandEffect s .seqend
      (((s.setChain zeroGroup).setIv zeroGroup).setStatus (s.status.setSeq false))
  /-- A command that transforms DATA in place (R21). -/
  | data {i : Instr} (h : destSet i = [.data]) (g : Group128) : CommandEffect s i (s.setData g)
  /-- A CBC or CFB command, which leaves the sequence open (R222 to R228). -/
  | chain {i : Instr} (h : destSet i = [.data, .chain, .seq]) (g c : Group128) :
      CommandEffect s i (((s.setStatus (s.status.setSeq true)).setData g).setChain c)
  /-- A byte command (R26). -/
  | byte {i : Instr} (h : destSet i = [.res]) (b : Byte) : CommandEffect s i (s.setRes (zext32 b))

/-- A result is a next state that the command's effect allows. -/
def Result.HasEffect (s : State) (i : Instr) (r : Result) : Prop := ∃ t, r = .next t ∧ CommandEffect s i t

section
variable {s : State} {i : Instr}

theorem raise_hasEffect {e : ErrCode} (he : e ≠ .noError) : Result.HasEffect s i (raise e s) := ⟨_, rfl, .error he⟩

theorem transformData_hasEffect (h : destSet i = [.data]) (f : Block → Block) :
    Result.HasEffect s i (transformData f s) := ⟨_, rfl, .data h _⟩

theorem byteResult_hasEffect (h : destSet i = [.res]) (b : Byte) : Result.HasEffect s i (byteResult b s) :=
  ⟨_, rfl, .byte h b⟩

theorem withSchedule_hasEffect {r : Result} (h : Result.HasEffect s i r) : Result.HasEffect s i (withSchedule s r) := by
  cases k : s.status.kvalid
  · rw [withSchedule_of_not_kvalid k]; exact raise_hasEffect (by decide)
  · rw [withSchedule_of_kvalid k]; exact h

/-- Once CHAIN is written, the implicit start has left nothing but SEQ = 1 (R222). -/
theorem State.openIfNeeded_setChain (s : State) (g c : Group128) :
    (s.openIfNeeded.setData g).setChain c = ((s.setStatus (s.status.setSeq true)).setData g).setChain c := by
  cases h : s.status.seq
  · rw [State.openIfNeeded_of_not_seq h]; rfl
  · have hseq : s.status.setSeq true = s.status := by rw [Status.setSeq, ← h]
    rw [State.openIfNeeded_of_seq h, hseq]; rfl

theorem chainResult_hasEffect (h : destSet i = [.data, .chain, .seq]) (b c : Block) :
    Result.HasEffect s i (withSchedule s (chainResult b c s.openIfNeeded)) :=
  withSchedule_hasEffect ⟨_, rfl, State.openIfNeeded_setChain s _ _ ▸ .chain h _ _⟩

end

theorem execKeyexp_hasEffect (klen : BitVec 2) (s : State) :
    Result.HasEffect s (.keyexp klen) (execKeyexp klen s) := by
  rw [execKeyexp]
  split
  · next nk nr h => exact ⟨_, rfl, .schedule h⟩
  · exact ⟨_, rfl, .noSchedule⟩

theorem execAddrk_hasEffect (ridx : BitVec 4) (s : State) :
    Result.HasEffect s (.addrk ridx) (execAddrk ridx s) := by
  apply withSchedule_hasEffect
  split
  · exact transformData_hasEffect rfl _
  · exact raise_hasEffect (by decide)

theorem execGftab_hasEffect (a : Byte) (tsel : BitVec 3) (s : State) :
    Result.HasEffect s (.gftab a tsel) (execGftab a tsel s) := by
  rw [execGftab]
  split
  · exact byteResult_hasEffect rfl _
  · exact raise_hasEffect (by decide)

/-- Every command has one of its effects. -/
theorem exec_hasEffect (i : Instr) (s : State) : Result.HasEffect s i (exec i s) := by
  cases i with
  | nop => exact ⟨s, rfl, .nothing⟩
  | seqinit => exact ⟨_, rfl, .openSequence⟩
  | seqend => exact ⟨_, rfl, .closeSequence⟩
  | keyexp klen => exact execKeyexp_hasEffect klen s
  | encblk | decblk | mencEcb | mdecEcb => exact withSchedule_hasEffect (transformData_hasEffect rfl _)
  | mencCbc | mdecCbc | mencCfb | mdecCfb => exact chainResult_hasEffect rfl _ _
  | mencMode3 | mdecMode3 => exact raise_hasEffect (by decide)
  | subb | invsubb | shrow | invshrow | mixcol | invmixcol => exact transformData_hasEffect rfl _
  | addrk ridx => exact execAddrk_hasEffect ridx s
  | gfmul | sbox | invsbox => exact byteResult_hasEffect rfl _
  | gftab a tsel => exact execGftab_hasEffect a tsel s

/-- What executing a word can do: the effect of its command, or IllegalCommand (R123). -/
theorem execute_cases {w : Word} {s t : State} (h : execute w s = .next t) :
    (∃ i, decode w = .ok i ∧ CommandEffect s i t) ∨ t = s.record .illegalCommand := by
  rw [execute] at h
  split at h
  · next i hi =>
    obtain ⟨u, hu, heffect⟩ := exec_hasEffect i s
    rw [hu] at h
    exact .inl ⟨i, hi, Host.Outcome.next.inj h ▸ heffect⟩
  · exact .inr (Host.Outcome.next.inj h).symm

/-! ## Steps -/

/-- What each agent's turn can do to the state, the agents' own fields free (R9). -/
inductive StepEffect (s : State) : State → Prop
  /-- A reset step (R280). -/
  | reset {p : List HostOp} {r : Option Word} (h : s.resets) :
      StepEffect s { s.beginTurn.resetRegisters with program := p, rdata := r }
  /-- A read of the HOST, or a turn whose agent has nothing to do (R56). -/
  | quiet {p : List HostOp} {r : Option Word} {n : Nat} :
      StepEffect s { s.beginTurn with program := p, rdata := r, draws := n }
  /-- A write of the HOST (R53, R120, R121). -/
  | write {p : List HostOp} {a : WindowIndex} {v : Word} (h : s.hostWrites a v) :
      StepEffect s { s.beginTurn.busWrite a v with program := p }
  /-- The completion of a command (R122). -/
  | command {i : Instr} {t : State} (hagent : s.nextAgent = .engine) (hbusy : s.status.busy = true)
      (hdecode : decode s.cmd = .ok i) (heffect : CommandEffect s.beginTurn i t) : StepEffect s t.endCommand
  /-- The completion of a word that is no command (R101). -/
  | illegal (hagent : s.nextAgent = .engine) (hbusy : s.status.busy = true) :
      StepEffect s (s.beginTurn.record .illegalCommand).endCommand

/-- The HOST's turn only reads or writes (R56). -/
theorem stepEffect_of_host {s t : State} (hagent : s.nextAgent = .host) (h : hostTurn s.beginTurn = .next t) :
    StepEffect s t := by
  rcases hostTurn_cases h with ⟨_, rfl⟩ | ⟨op, rest, b, hprogram, hop, rfl⟩
  · exact .quiet
  · cases b with
    | rd | wait => exact .quiet
    | wr a v => exact .write ⟨hagent, op, rest, hprogram, hop⟩

/-- The ENGINE's turn is quiet or completes the word in CMD (R122). -/
theorem stepEffect_of_engine {s t : State} (hagent : s.nextAgent = .engine) (h : engineTurn s.beginTurn = .next t) :
    StepEffect s t := by
  cases hbusy : s.beginTurn.status.busy
  · rw [engineTurn_of_idle hbusy] at h
    exact Host.Outcome.next.inj h ▸ .quiet
  · rw [engineTurn_of_busy hbusy] at h
    obtain ⟨u, hu, rfl⟩ := complete_eq h
    rcases execute_cases hu with ⟨i, hi, heffect⟩ | rfl
    · exact .command hagent hbusy hi heffect
    · exact .illegal hagent hbusy

/-- Every step is one of these. -/
theorem step_effect {s t : State} (h : step s = .next t) : StepEffect s t := by
  rcases step_cases h with ⟨hagent, hturn⟩ | ⟨hagent, hturn⟩ | ⟨a, hagent, rfl⟩
  · exact stepEffect_of_host hagent hturn
  · exact stepEffect_of_engine hagent hturn
  · obtain ⟨p, r, hreset⟩ := resetTurn_eq a s.beginTurn
    exact hreset ▸ .reset ⟨a, hagent⟩

end Sys2Proof.Machine
end

section
/-! The invariant of R39: reset meets it, and every effect of a step keeps it. -/

namespace Sys2Proof.Machine

/-- Settles O51: every clause of the invariant is a check of the zero registers. -/
theorem resetSatisfiesTheInvariant : Obligations.ResetSatisfiesTheInvariant := by
  unfold Obligations.ResetSatisfiesTheInvariant
  decide

/-! ## Updates of one register -/

/-- Codes 1..5 are those of the errors (R251). -/
theorem ErrCode.code_of_ne_noError {e : ErrCode} (h : e ≠ .noError) : 1 ≤ e.code.toNat ∧ e.code.toNat ≤ 5 := by
  cases e with
  | noError => exact absurd rfl h
  | _ => decide

section
variable {s : State}

theorem State.ErrorInv.record (h : s.ErrorInv) {e : ErrCode} (he : e ≠ .noError) : (s.record e).ErrorInv := by
  cases herr : s.status.err
  · have hrecord := Status.record_of_not_err e s.status herr
    simp [State.ErrorInv, hrecord, ErrCode.code_of_ne_noError he]
  · simpa [State.ErrorInv, Status.record_of_err e s.status herr] using h

theorem State.Inv.record (h : s.Inv) {e : ErrCode} (he : e ≠ .noError) : (s.record e).Inv := by
  obtain ⟨hschedule, hsequence, herror, hresult⟩ := h
  exact ⟨by simpa [State.ScheduleInv] using hschedule, by simpa [State.SequenceInv] using hsequence, herror.record he,
    hresult⟩

theorem State.Inv.endCommand (h : s.Inv) : s.endCommand.Inv := h

theorem State.Inv.clearError (h : s.Inv) : s.clearError.Inv := by
  obtain ⟨hschedule, hsequence, -, hresult⟩ := h
  exact ⟨hschedule, hsequence, ⟨fun _ => rfl, nofun⟩, hresult⟩

/-- A byte command leaves bits 31:8 of RES zero (R26). -/
theorem zext32_high (b : Byte) : (zext32 b).extractLsb' 8 24 = 0 := by
  ext i hi
  simp [zext32, BitVec.getLsbD_of_ge]

/-- KEYEXP writes no word above the schedule (R176). -/
theorem rkOfWords_expand_above {key : Vector Word 8} {nk nr : Nat} (hnk : nk ≤ 4 * (nr + 1)) {i : Fin 60}
    (hi : 4 * (nr + 1) ≤ i.val) : (rkOfWords (expand (keyWords key nk) nk nr))[i] = 0 := by
  have hlength : (expand (keyWords key nk) nk nr).length ≤ 4 * (nr + 1) := by
    simp only [expand, expandLoop_length, keyWords, List.length_take]
    omega
  simp [rkOfWords, List.getElem?_eq_none (hlength.trans hi)]

theorem State.ScheduleInv.schedule {klen : BitVec 2} {nk nr : Nat} (hshape : keyShape klen = some (nk, nr)) :
    ((s.setRk (rkOfWords (expand (keyWords s.key nk) nk nr))).setStatus
      (s.status.validSchedule klen nr)).ScheduleInv := by
  refine ⟨fun _ => ?_, nofun⟩
  rcases keyShape_cases klen with ⟨rfl, h⟩ | ⟨rfl, h⟩ | ⟨rfl, h⟩ | ⟨rfl, h⟩ <;> rw [hshape] at h <;> cases h
  · exact ⟨.inl ⟨rfl, rfl⟩, fun i hi => rkOfWords_expand_above (by decide) hi⟩
  · exact ⟨.inr (.inl ⟨rfl, rfl⟩), fun i hi => rkOfWords_expand_above (by decide) hi⟩
  · exact ⟨.inr (.inr ⟨rfl, rfl⟩), fun i hi => rkOfWords_expand_above (by decide) hi⟩

theorem State.ScheduleInv.noSchedule : ((s.setRk rkZero).setStatus s.status.noSchedule).ScheduleInv :=
  ⟨nofun, fun _ => ⟨rfl, rfl, fun i => by simp [rkZero]⟩⟩

/-- What KEYEXP writes besides RK, KVALID, KLEN and NR matters to no clause but the schedule's. -/
theorem State.Inv.setSchedule (h : s.Inv) {k : Vector Word 60} {u : Status}
    (hschedule : ((s.setRk k).setStatus u).ScheduleInv) (hseq : u.seq = s.status.seq) (herr : u.err = s.status.err)
    (hcode : u.errcode = s.status.errcode) : ((s.setRk k).setStatus u).Inv := by
  obtain ⟨-, hsequence, herror, hresult⟩ := h
  refine ⟨hschedule, ?_, ?_, hresult⟩
  · simpa [State.SequenceInv, hseq] using hsequence
  · simpa [State.ErrorInv, herr, hcode] using herror

/-! ## Effects -/

/-- Every command keeps the invariant. -/
theorem CommandEffect.keeps_inv {i : Instr} {t : State} (h : s.Inv) (heffect : CommandEffect s i t) : t.Inv := by
  cases heffect with
  | nothing | data => exact h
  | error he => exact h.record he
  | schedule hshape => exact h.setSchedule (.schedule hshape) rfl rfl rfl
  | noSchedule =>
    have hcleared : ((s.setRk rkZero).setStatus s.status.noSchedule).Inv := h.setSchedule .noSchedule rfl rfl rfl
    exact hcleared.record (by decide)
  | openSequence | chain =>
    obtain ⟨hschedule, -, herror, hresult⟩ := h
    exact ⟨hschedule, nofun, herror, hresult⟩
  | closeSequence =>
    obtain ⟨hschedule, -, herror, hresult⟩ := h
    exact ⟨hschedule, fun _ j => by simp [zeroGroup], herror, hresult⟩
  | byte _ b =>
    obtain ⟨hschedule, hsequence, herror, -⟩ := h
    exact ⟨hschedule, hsequence, herror, zext32_high b⟩

/-- A HOST write keeps the invariant. -/
theorem State.Inv.busWrite (h : s.Inv) (a : WindowIndex) (v : Word) : (s.busWrite a v).Inv := by
  cases hbusy : s.status.busy
  · rw [State.busWrite_of_idle hbusy]
    cases regAt a with
    | status =>
      rw [State.writeReg]
      split
      · exact h.clearError
      · exact h
    | _ => exact h
  · rw [State.busWrite_of_busy hbusy]
    split
    · exact h.record (by decide)
    · exact h

end

/-- Settles O52: a turn that leaves a clause's registers alone keeps it, and each effect sets up the rest. -/
theorem everyStepKeepsTheInvariant : Obligations.EveryStepKeepsTheInvariant := by
  intro s t hinv hstep
  have hbegin : s.beginTurn.Inv := hinv
  cases step_effect hstep with
  | reset => exact resetSatisfiesTheInvariant
  | quiet => exact hinv
  | write => exact hbegin.busWrite _ _
  | command _ _ _ heffect => exact (heffect.keeps_inv hbegin).endCommand
  | illegal => exact (hbegin.record (by decide)).endCommand

end Sys2Proof.Machine
end

section
/-! Which registers and STATUS fields each effect of a step leaves alone. -/

namespace Sys2Proof.Machine

/-! ## Registers -/

section
variable {s : State}

/-- STATUS updates change no other register. -/
theorem State.readReg_setStatus {r : Reg} (hr : r ≠ .status) (u : Status) :
    (s.setStatus u).readReg r = s.readReg r := by
  cases r with
  | status => exact absurd rfl hr
  | _ => rfl

/-- The agents' own fields are in no register. -/
theorem State.readReg_agents (p : List HostOp) (q : List Agent) (d : Option Word) (n : Nat) (r : Reg) :
    ({ s with program := p, schedule := q, rdata := d, draws := n } : State).readReg r = s.readReg r := by
  cases r <;> rfl

theorem State.readReg_record {r : Reg} (hr : r ≠ .status) (e : ErrCode) : (s.record e).readReg r = s.readReg r :=
  State.readReg_setStatus hr _

theorem State.readReg_beginTurn (r : Reg) : s.beginTurn.readReg r = s.readReg r := State.readReg_agents ..

/-! A register outside a set of destinations keeps its word when a destination of the set is written. -/

section
variable {ds : List Dest} {r : Reg} (h : regIn ds r = false)
include h

theorem State.readReg_setRes (hd : Dest.res ∈ ds) (w : Word) : (s.setRes w).readReg r = s.readReg r := by
  cases r with
  | res => simp [regIn, hd] at h
  | _ => rfl

theorem State.readReg_setData (hd : Dest.data ∈ ds) (g : Group128) : (s.setData g).readReg r = s.readReg r := by
  cases r with
  | data => simp [regIn, hd] at h
  | _ => rfl

theorem State.readReg_setIv (hd : Dest.iv ∈ ds) (g : Group128) : (s.setIv g).readReg r = s.readReg r := by
  cases r with
  | iv => simp [regIn, hd] at h
  | _ => rfl

theorem State.readReg_setChain (hd : Dest.chain ∈ ds) (g : Group128) : (s.setChain g).readReg r = s.readReg r := by
  cases r with
  | chain => simp [regIn, hd] at h
  | _ => rfl

theorem State.readReg_setRk (hd : Dest.rk ∈ ds) (k : Vector Word 60) : (s.setRk k).readReg r = s.readReg r := by
  cases r with
  | rk => simp [regIn, hd] at h
  | _ => rfl

end

/-- A command changes no register outside its destination set (R124). -/
theorem CommandEffect.readReg_of_not_dest {i : Instr} {t : State} (heffect : CommandEffect s i t) {r : Reg}
    (hr : r ≠ .status) (h : regIn (destSet i) r = false) : t.readReg r = s.readReg r := by
  cases heffect with
  | nothing => rfl
  | error => exact State.readReg_record hr _
  | schedule => rw [State.readReg_setStatus hr, State.readReg_setRk h (by simp [destSet])]
  | noSchedule => rw [State.readReg_record hr, State.readReg_setStatus hr, State.readReg_setRk h (by simp [destSet])]
  | openSequence => rw [State.readReg_setStatus hr, State.readReg_setChain h (by decide)]
  | closeSequence =>
    rw [State.readReg_setStatus hr, State.readReg_setIv h (by decide), State.readReg_setChain h (by decide)]
  | data hi => exact State.readReg_setData h (by simp [hi]) _
  | chain hi =>
    rw [State.readReg_setChain h (by simp [hi]), State.readReg_setData h (by simp [hi]), State.readReg_setStatus hr]
  | byte hi => exact State.readReg_setRes h (by simp [hi]) _

/-- An idle write changes no other register (R53). -/
theorem State.readReg_writeReg_of_ne {q r : Reg} (hr : r ≠ .status) (h : r ≠ q) (v : Word) :
    (s.writeReg q v).readReg r = s.readReg r := by
  cases q with
  | res | chain | rk | reserved => rfl
  | status =>
    rw [State.writeReg]
    split
    · exact State.readReg_setStatus hr _
    · rfl
  | cmd =>
    cases r with
    | cmd => exact absurd rfl h
    | status => exact absurd rfl hr
    | _ => rfl
  | data j =>
    cases r with
    | data k => exact Vector.getElem_set_ne j.isLt k.isLt fun e => h (congrArg Reg.data (Fin.ext e.symm))
    | _ => rfl
  | iv j =>
    cases r with
    | iv k => exact Vector.getElem_set_ne j.isLt k.isLt fun e => h (congrArg Reg.iv (Fin.ext e.symm))
    | _ => rfl
  | key j =>
    cases r with
    | key k => exact Vector.getElem_set_ne j.isLt k.isLt fun e => h (congrArg Reg.key (Fin.ext e.symm))
    | _ => rfl

/-- An idle write at a register that is not writable does nothing (R53). -/
theorem State.writeReg_of_not_writable {q : Reg} (h : regWritable q = false) (v : Word) : s.writeReg q v = s := by
  cases q with
  | cmd | status | data | iv | key => cases h
  | _ => rfl

/-- Of the registers but STATUS, a HOST write can change only the writable one at its index, while idle (R53, R121). -/
theorem State.eq_of_readReg_busWrite_ne {a : WindowIndex} {v : Word} {r : Reg} (hr : r ≠ .status)
    (h : (s.busWrite a v).readReg r ≠ s.readReg r) :
    s.status.busy = false ∧ r = regAt a ∧ regWritable r = true := by
  cases hbusy : s.status.busy
  · rw [State.busWrite_of_idle hbusy] at h
    have hreg : r = regAt a := by
      by_contra hne
      exact h (State.readReg_writeReg_of_ne hr hne v)
    refine ⟨rfl, hreg, ?_⟩
    by_contra hwritable
    rw [State.writeReg_of_not_writable (by simpa [hreg] using hwritable)] at h
    exact h rfl
  · rw [State.busWrite_of_busy hbusy] at h
    split at h
    · exact absurd (State.readReg_record hr _) h
    · exact absurd rfl h

end

/-- Settles O54: a register that changed was reset, or is the one written, or is in the command's destination set. -/
theorem registersChangeOnlyByTheirWriters : Obligations.RegistersChangeOnlyByTheirWriters := by
  intro s t a hstep ha hchange
  rw [State.windowWords_getD, State.windowWords_getD] at hchange
  have hr : regAtNat a.toNat ≠ .status := fun h => ha (by rw [eq_one_of_regAt_status h]; rfl)
  cases step_effect hstep with
  | reset hreset => exact .inl hreset
  | quiet => exact absurd (State.readReg_agents ..) hchange
  | @write _ b v hwrite =>
    have hwritten : (s.beginTurn.busWrite b v).readReg (regAt a) ≠ s.beginTurn.readReg (regAt a) := by
      rw [State.readReg_beginTurn]
      exact (State.readReg_agents ..).symm.trans_ne hchange
    obtain ⟨hbusy, hreg, hwritable⟩ := State.eq_of_readReg_busWrite_ne hr hwritten
    have hab : a = b := eq_of_regAt_eq hreg fun h => by
      rw [show regAtNat a.toNat = .reserved from h] at hwritable
      cases hwritable
    exact .inr (.inl ⟨hbusy, (writableIndex_eq_regWritable _).trans hwritable, v, hab ▸ hwrite⟩)
  | command hagent hbusy hdecode heffect =>
    refine .inr (.inr ⟨hagent, hbusy, _, hdecode, (drawnIndex_eq_regIn ..).trans ?_⟩)
    by_contra hdest
    apply hchange
    rw [State.endCommand, State.readReg_setStatus hr, heffect.readReg_of_not_dest hr (by simpa using hdest),
      State.readReg_beginTurn]
  | illegal =>
    refine absurd ?_ hchange
    rw [State.endCommand, State.readReg_setStatus hr, State.readReg_record hr, State.readReg_beginTurn]

end Sys2Proof.Machine
end

section
/-! Who changes the fields of STATUS: the error record, BUSY, the schedule's fields and SEQ. -/

namespace Sys2Proof.Machine

section
variable {s t : State} {i : Instr}

/-! ## The error record -/

/-- Recording another error keeps the record (R252). -/
theorem State.record_of_err (h : s.status.err = true) (e : ErrCode) : s.record e = s := by
  rw [State.record, Status.record_of_err e s.status h]; rfl

/-- No command ends an error record (R31). -/
theorem CommandEffect.keeps_error (heffect : CommandEffect s i t) (herr : s.status.err = true) :
    t.status.err = true ∧ t.status.errcode = s.status.errcode := by
  cases heffect with
  | error => rw [State.record_of_err herr]; exact ⟨herr, rfl⟩
  | noSchedule =>
    have hcleared : ((s.setRk rkZero).setStatus s.status.noSchedule).status.err = true := herr
    rw [State.record_of_err hcleared]
    exact ⟨herr, rfl⟩
  | _ => exact ⟨herr, rfl⟩

/-- The one HOST write that ends an error record is the idle W1C of STATUS bit 2 (R256). -/
theorem State.busWrite_keeps_error (herr : s.status.err = true) (a : WindowIndex) (v : Word) :
    ((s.busWrite a v).status.err = true ∧ (s.busWrite a v).status.errcode = s.status.errcode) ∨
    (s.status.busy = false ∧ a = 1 ∧ v.getLsbD 2 = true) := by
  cases hbusy : s.status.busy
  · rw [State.busWrite_of_idle hbusy]
    cases hreg : regAt a with
    | status =>
      cases hbit : v.getLsbD 2
      · rw [State.writeReg, hbit]; exact .inl ⟨herr, rfl⟩
      · exact .inr ⟨rfl, eq_one_of_regAt_status hreg, rfl⟩
    | _ => exact .inl ⟨herr, rfl⟩
  · rw [State.busWrite_of_busy hbusy, State.record_of_err herr, ite_self]
    exact .inl ⟨herr, rfl⟩

/-! ## BUSY -/

/-- A HOST write raises BUSY only at CMD, and puts its word there (R120). -/
theorem State.busWrite_raises_busy {a : WindowIndex} {v : Word} (hidle : s.status.busy = false)
    (h : (s.busWrite a v).status.busy = true) : a = 0 ∧ (s.busWrite a v).cmd = v := by
  rw [State.busWrite_of_idle hidle] at h ⊢
  cases hreg : regAt a with
  | cmd => exact ⟨eq_zero_of_regAt_cmd hreg, rfl⟩
  | status =>
    rw [hreg, State.writeReg] at h
    split at h <;> exact absurd (hidle.symm.trans h) (by decide)
  | _ => rw [hreg] at h; exact absurd (hidle.symm.trans h) (by decide)

/-- A HOST write never makes BUSY fall (R29). -/
theorem State.busWrite_keeps_busy (h : s.status.busy = true) (a : WindowIndex) (v : Word) :
    (s.busWrite a v).status.busy = true := by
  rw [State.busWrite_of_busy h]
  split
  · exact (Status.record_busy _ _).trans h
  · exact h

/-! ## The schedule's fields and SEQ -/

/-- Two STATUS values with the same KVALID, KLEN and NR. -/
def Status.SameSchedule (t u : Status) : Prop := u.kvalid = t.kvalid ∧ u.klen = t.klen ∧ u.nr = t.nr

theorem Status.record_sameSchedule (t : Status) (e : ErrCode) : t.SameSchedule (t.record e) :=
  ⟨Status.record_kvalid .., Status.record_klen .., Status.record_nr ..⟩

theorem Status.SameSchedule.not_changed {t u : Status} (h : t.SameSchedule u) :
    ¬ (u.kvalid ≠ t.kvalid ∨ u.klen ≠ t.klen ∨ u.nr ≠ t.nr) := by
  obtain ⟨hkvalid, hklen, hnr⟩ := h
  simp [hkvalid, hklen, hnr]

/-- A HOST write changes neither the schedule's fields nor SEQ (R30, R32). -/
theorem State.busWrite_sameSchedule (s : State) (a : WindowIndex) (v : Word) :
    s.status.SameSchedule (s.busWrite a v).status ∧ (s.busWrite a v).status.seq = s.status.seq := by
  cases hbusy : s.status.busy
  · rw [State.busWrite_of_idle hbusy]
    cases regAt a with
    | status => rw [State.writeReg]; split <;> exact ⟨⟨rfl, rfl, rfl⟩, rfl⟩
    | _ => exact ⟨⟨rfl, rfl, rfl⟩, rfl⟩
  · rw [State.busWrite_of_busy hbusy]
    split
    · exact ⟨Status.record_sameSchedule .., Status.record_seq ..⟩
    · exact ⟨⟨rfl, rfl, rfl⟩, rfl⟩

/-- Only a command with KVALID in its destination set changes the schedule's fields (R124, R178). -/
theorem CommandEffect.sameSchedule (heffect : CommandEffect s i t) (h : Dest.kvalid ∉ destSet i) :
    s.status.SameSchedule t.status := by
  cases heffect with
  | error => exact Status.record_sameSchedule ..
  | schedule | noSchedule => simp [destSet] at h
  | _ => exact ⟨rfl, rfl, rfl⟩

/-- Only a command with SEQ in its destination set changes SEQ (R124, R234). -/
theorem CommandEffect.seq_of_not_dest (heffect : CommandEffect s i t) (h : Dest.seq ∉ destSet i) :
    t.status.seq = s.status.seq := by
  cases heffect with
  | error | noSchedule => exact Status.record_seq ..
  | openSequence | closeSequence => simp [destSet] at h
  | chain hi => simp [hi] at h
  | _ => rfl

/-- KVALID is in the destination set of KEYEXP only (R124). -/
theorem keyexp_of_kvalid_dest (h : Dest.kvalid ∈ destSet i) :
    [Instr.keyexp 0, .keyexp 1, .keyexp 2, .keyexp 3].contains i = true := by
  cases i with
  | keyexp klen => revert klen; decide
  | _ => simp [destSet] at h

/-- SEQ is in the destination set of the sequence commands and of CBC and CFB (R124). -/
theorem sequence_command_of_seq_dest (h : Dest.seq ∈ destSet i) :
    [Instr.seqinit, .seqend, .mencCbc, .mdecCbc, .mencCfb, .mdecCfb].contains i = true := by
  cases i with
  | seqinit | seqend | mencCbc | mdecCbc | mencCfb | mdecCfb => decide
  | _ => simp [destSet] at h

end

/-- Settles O24: neither a quiet turn nor a completion ends the record, so a reset or a HOST write did. -/
theorem errorRecordEndsOnlyByClearOrReset : Obligations.ErrorRecordEndsOnlyByClearOrReset := by
  intro s t hstep herr
  have hbegin : s.beginTurn.status.err = true := herr
  cases step_effect hstep with
  | reset hreset => exact .inr (.inl hreset)
  | quiet => exact .inl ⟨herr, rfl⟩
  | @write _ a v hwrite =>
    rcases State.busWrite_keeps_error hbegin a v with hkept | ⟨hbusy, rfl, hbit⟩
    · exact .inl hkept
    · exact .inr (.inr ⟨hbusy, v, hwrite, hbit⟩)
  | command _ _ _ heffect => exact .inl (heffect.keeps_error hbegin)
  | illegal => rw [State.record_of_err hbegin]; exact .inl ⟨herr, rfl⟩

/-- Settles O55: BUSY, the schedule's fields and SEQ, effect by effect. -/
theorem statusFieldsChangeOnlyByTheirWriters : Obligations.StatusFieldsChangeOnlyByTheirWriters := by
  intro s t hstep
  cases step_effect hstep with
  | reset hreset => exact ⟨nofun, fun _ _ => .inl hreset, fun _ => .inl hreset, fun _ => .inl hreset⟩
  | quiet =>
    have hsame : s.status.SameSchedule s.status := ⟨rfl, rfl, rfl⟩
    refine ⟨fun h h' => ?_, fun h h' => ?_, fun h => absurd h hsame.not_changed, fun h => absurd rfl h⟩
    · exact absurd (h.symm.trans h') (by decide)
    · exact absurd (h.symm.trans h') (by decide)
  | @write _ a v hwrite =>
    obtain ⟨hsame, hseq⟩ := State.busWrite_sameSchedule s.beginTurn a v
    refine ⟨fun h h' => ?_, fun h h' => ?_, fun h => absurd h hsame.not_changed, fun h => absurd hseq h⟩
    · obtain ⟨rfl, hcmd⟩ := State.busWrite_raises_busy (s := s.beginTurn) h h'
      exact ⟨v, hwrite, hcmd⟩
    · have hkept : (s.beginTurn.busWrite a v).status.busy = true :=
        State.busWrite_keeps_busy (s := s.beginTurn) h a v
      exact absurd (hkept.symm.trans h') (by decide)
  | @command i t hagent hbusy hdecode heffect =>
    refine ⟨nofun, fun _ _ => .inr hagent, fun h => .inr ?_, fun h => .inr ?_⟩
    · refine ⟨hagent, hbusy, i, hdecode, keyexp_of_kvalid_dest ?_⟩
      by_contra hdest
      exact (heffect.sameSchedule hdest).not_changed h
    · refine ⟨hagent, hbusy, i, hdecode, sequence_command_of_seq_dest ?_⟩
      by_contra hdest
      exact h (heffect.seq_of_not_dest hdest)
  | illegal hagent =>
    have hsame : s.status.SameSchedule (s.status.record .illegalCommand) := Status.record_sameSchedule ..
    exact ⟨nofun, fun _ _ => .inr hagent, fun h => absurd h hsame.not_changed, fun h => absurd (Status.record_seq ..) h⟩

end Sys2Proof.Machine
end

section
/-! KEYEXP reads only the first Nk words of KEY (R24, R176). -/

namespace Sys2Proof.Machine

/-- The key words of a length are those below it. -/
theorem keyWords_congr {key key' : Vector Word 8} {nk : Nat} (h : ∀ j : Fin 8, j.val < nk → key[j] = key'[j]) :
    keyWords key nk = keyWords key' nk := by
  apply List.ext_getElem
  · simp [keyWords]
  · intro n hn hn'
    simp only [keyWords, List.length_take, Vector.length_toList] at hn
    simpa [keyWords] using h ⟨n, by omega⟩ (by simp; omega)

/-- KEYEXP of a key length (R176). -/
theorem execKeyexp_of_keyShape {klen : BitVec 2} {nk nr : Nat} (h : keyShape klen = some (nk, nr)) (s : State) :
    execKeyexp klen s = .next ((s.setRk (rkOfWords (expand (keyWords s.key nk) nk nr))).setStatus
      (s.status.validSchedule klen nr)) := by
  rw [execKeyexp, h]

/-- Settles O30: the two states expand the same key words. -/
theorem keyexpIgnoresKeyWordsAboveNk : Obligations.KeyexpIgnoresKeyWordsAboveNk := by
  intro s key klen nk nr hshape hkey
  refine ⟨_, _, execKeyexp_of_keyShape hshape s, execKeyexp_of_keyShape hshape _, ?_, rfl⟩
  rw [keyWords_congr hkey]
  rfl

end Sys2Proof.Machine
end

section
/-! Where each field of STATUS stands in the word a HOST reads (R28). -/

namespace Sys2Proof.Machine

section
variable (t : Status)

theorem Status.toWord_bit_one : t.toWord.getLsbD 1 = t.kvalid := by
  rw [Status.toWord]
  iterate 2 rw [BitVec.getLsbD_append]
  simp

theorem Status.toWord_bit_two : t.toWord.getLsbD 2 = t.err := by
  rw [Status.toWord]
  iterate 3 rw [BitVec.getLsbD_append]
  simp

theorem Status.toWord_bit_three : t.toWord.getLsbD 3 = t.seq := by
  rw [Status.toWord]
  iterate 4 rw [BitVec.getLsbD_append]
  simp

/-- The fields above bit 3, the four single bits cut off. -/
theorem Status.toWord_extractLsb' {start len : Nat} (h : 4 ≤ start) :
    t.toWord.extractLsb' start len =
      (0#16 ++ t.nr ++ 0#2 ++ t.klen ++ t.errcode.code).extractLsb' (start - 1 - 1 - 1 - 1) len := by
  rw [Status.toWord]
  iterate 4 rw [BitVec.extractLsb'_append_eq_of_le (by omega)]

end

/-- Settles O14: the four bits one by one, and each field above them at its place in what is left. -/
theorem statusFieldsStandWhereTheLayoutSays : Obligations.StatusFieldsStandWhereTheLayoutSays := by
  intro t
  refine ⟨t.toWord_bit_zero, t.toWord_bit_one, t.toWord_bit_two, t.toWord_bit_three, ?_, ?_, ?_, ?_, ?_,
    rfl, rfl, rfl, rfl, rfl, rfl⟩
  all_goals rw [Status.toWord_extractLsb' t (by decide)]
  · rw [BitVec.extractLsb'_append_eq_of_add_le (by decide)]
    exact BitVec.extractLsb'_eq_self
  · rw [BitVec.extractLsb'_append_eq_of_le (by decide)]
    rw [BitVec.extractLsb'_append_eq_of_add_le (by decide)]
    exact BitVec.extractLsb'_eq_self
  · iterate 2 rw [BitVec.extractLsb'_append_eq_of_le (by decide)]
    rw [BitVec.extractLsb'_append_eq_of_add_le (by decide)]
    exact BitVec.extractLsb'_eq_self
  · iterate 3 rw [BitVec.extractLsb'_append_eq_of_le (by decide)]
    rw [BitVec.extractLsb'_append_eq_of_add_le (by decide)]
    exact BitVec.extractLsb'_eq_self
  · iterate 4 rw [BitVec.extractLsb'_append_eq_of_le (by decide)]
    exact BitVec.extractLsb'_eq_self

end Sys2Proof.Machine
end

section
/-! The HOST's accesses of the window: reads and writes while idle, the accesses of a platform adapter, and what a HOST turn
leaves of the command in flight. -/

namespace Sys2Proof.Machine

/-! ## The word indices of DATA, IV and KEY (R51) -/

theorem regAtNat_data (j : Fin 4) : regAtNat (4 + j.val) = .data j := by revert j; decide

theorem regAtNat_iv (j : Fin 4) : regAtNat (8 + j.val) = .iv j := by revert j; decide

theorem regAtNat_key (j : Fin 8) : regAtNat (16 + j.val) = .key j := by revert j; decide

section
variable {s : State} {rest : List HostOp}

/-! ## Accesses while idle (R53, R56) -/

/-- A HOST write while idle is the write of the register that the map names at its index. -/
theorem hostTurn_write_of_idle {a : WindowIndex} {v : Word} (hidle : s.status.busy = false)
    (hprogram : s.program = .bus (.wr a v) :: rest) :
    hostTurn s = .next { s.writeReg (regAtNat a.toNat) v with program := rest } := by
  rw [hostTurn_of_bus hprogram, BusOp.perform, State.busWrite_of_idle hidle, regAt]

/-- A read while idle returns the register's word and uses up no draw. -/
theorem State.busRead_of_idle (hidle : s.status.busy = false) (a : WindowIndex) :
    s.busRead a = { s with rdata := some (s.readReg (regAtNat a.toNat)) } := by
  simp [State.busRead, State.busValue, State.isDraw_of_idle hidle, regAt]

/-! ## Platform accesses (R50, R55) -/

section
variable {addr size : Nat}

/-- An address outside the window reaches no index, whatever the size. -/
theorem platformIndex_outside (h : addr < Config.aesBase ∨ Config.aesBase + 4096 ≤ addr) :
    platformIndex addr size = .fault (.outsideWindow addr) := if_pos h

/-- Inside the window the size is checked first. -/
theorem platformIndex_not_one_word (hlow : Config.aesBase ≤ addr) (hhigh : addr < Config.aesBase + 4096)
    (hsize : size ≠ 4) : platformIndex addr size = .refused (.notOneWordAccess addr size) := by
  rw [platformIndex, if_neg (by omega), if_pos hsize]

/-- A one-word access inside the window must be aligned. -/
theorem platformIndex_misaligned (hlow : Config.aesBase ≤ addr) (hhigh : addr < Config.aesBase + 4096)
    (halign : (addr - Config.aesBase) % 4 ≠ 0) : platformIndex addr 4 = .refused (.misalignedAccess addr) := by
  rw [platformIndex, if_neg (by omega), if_neg (by decide), if_pos halign]

/-- A platform access that reaches no index by a fault stops the HOST's turn with that fault. -/
theorem hostTurn_platform_fault {v : Word} {f : Fault}
    (hprogram : s.program = .platformRd addr size :: rest ∨ s.program = .platformWr addr size v :: rest)
    (hindex : platformIndex addr size = .fault f) : hostTurn s = .fault f := by
  rcases hprogram with hread | hwrite
  · simp [hostTurn, hread, HostOp.onBus, hindex]
  · simp [hostTurn, hwrite, HostOp.onBus, hindex]

/-- A platform access that the adapter refuses stops the HOST's turn with that refusal. -/
theorem hostTurn_platform_refused {v : Word} {r : Refusal}
    (hprogram : s.program = .platformRd addr size :: rest ∨ s.program = .platformWr addr size v :: rest)
    (hindex : platformIndex addr size = .refused r) : hostTurn s = .refused r := by
  rcases hprogram with hread | hwrite
  · simp [hostTurn, hread, HostOp.onBus, hindex]
  · simp [hostTurn, hwrite, HostOp.onBus, hindex]

end

/-- A HOST write does not look at the HOST's program. -/
theorem State.busWrite_program (s : State) (a : WindowIndex) (v : Word) (p : List HostOp) :
    ({ s with program := p } : State).busWrite a v = { s.busWrite a v with program := p } := by
  simp only [State.busWrite]
  split
  · split <;> rfl
  · cases regAt a with
    | status => simp only [State.writeReg]; split <;> rfl
    | _ => rfl

/-- Only WAIT, which stays on the program while busy, depends on the program it is taken from. -/
theorem BusOp.perform_program {b : BusOp} (hb : b ≠ .wait) (s : State) (p : List HostOp) :
    b.perform rest { s with program := p } = b.perform rest s := by
  cases b with
  | rd a => rfl
  | wr a v => simp only [BusOp.perform, State.busWrite_program]
  | wait => exact absurd rfl hb

/-- An operation that reaches the bus as a read or a write is that access. -/
theorem hostTurn_of_onBus {op : HostOp} {b : BusOp} (hprogram : s.program = op :: rest) (hop : op.onBus = .next b)
    (hb : b ≠ .wait) : hostTurn s = hostTurn { s with program := .bus b :: rest } := by
  calc
    hostTurn s = .next (b.perform rest s) := by simp [hostTurn, hprogram, hop]
    _ = .next (b.perform rest { s with program := .bus b :: rest }) := by rw [BusOp.perform_program hb s (.bus b :: rest)]
    _ = hostTurn { s with program := .bus b :: rest } := (hostTurn_of_bus rfl).symm

/-! ## The command in flight (R54, R67) -/

theorem State.record_sameButErrors (s : State) (e : ErrCode) : s.sameButErrors (s.record e) := by
  cases herr : s.status.err
  · rw [State.record, Status.record_of_not_err e _ herr]; rfl
  · rw [State.record_of_err herr]; rfl

/-- With a command in flight, a HOST turn touches the program, the read-data port, the draws and the error record only. -/
theorem hostTurn_cases_of_busy {t : State} (hbusy : s.status.busy = true) (hturn : hostTurn s = .next t) :
    ∃ u p r n, t = { s with status := u, program := p, rdata := r, draws := n } ∧
      s.sameButErrors { s with status := u } := by
  rcases hostTurn_cases hturn with ⟨-, rfl⟩ | ⟨op, rest, b, -, -, rfl⟩
  · exact ⟨_, _, _, _, rfl, rfl⟩
  · cases b with
    | rd | wait => exact ⟨s.status, _, _, _, rfl, rfl⟩
    | wr a v =>
      rw [BusOp.perform, State.busWrite_of_busy hbusy]
      split
      · exact ⟨_, _, _, _, rfl, s.record_sameButErrors .busyWrite⟩
      · exact ⟨_, _, _, _, rfl, rfl⟩

end

/-- Settles O10: the register map names the word written, and a register that is not writable keeps its word. -/
theorem idleWritesStoreOnlyTheirWord : Obligations.IdleWritesStoreOnlyTheirWord := by
  intro s a v rest hidle hprogram
  rw [hostTurn_write_of_idle hidle hprogram]
  refine ⟨fun j hj => ?_, fun j hj => ?_, fun j hj => ?_, fun hreadonly => ?_⟩
  · rw [hj, regAtNat_data]; rfl
  · rw [hj, regAtNat_iv]; rfl
  · rw [hj, regAtNat_key]; rfl
  · rw [writableIndex_eq_regWritable] at hreadonly
    rw [State.writeReg_of_not_writable hreadonly]

/-- Settles O12: idle, the word read is the register's, which is the window's word at the index. -/
theorem idleReadsReturnTheWindow : Obligations.IdleReadsReturnTheWindow := by
  intro s a rest hidle hprogram
  rw [hostTurn_of_bus hprogram, BusOp.perform, State.busRead_of_idle hidle, State.windowWords_getD]

/-- Settles O16: the adapter's checks in their order, each carried to the HOST's turn. -/
theorem platformAccessesMapOrStop : Obligations.PlatformAccessesMapOrStop := by
  intro s addr size v rest
  constructor
  · rintro a rfl rfl
    exact ⟨fun hprogram => hostTurn_of_onBus hprogram (by rw [HostOp.onBus, platformIndex_base]) nofun,
      fun hprogram => hostTurn_of_onBus hprogram (by rw [HostOp.onBus, platformIndex_base]) nofun⟩
  · intro hprogram
    refine ⟨fun houtside => ?_, fun hlow hhigh hsize => ?_, fun hlow hhigh hsize halign => ?_⟩
    · exact hostTurn_platform_fault hprogram (platformIndex_outside houtside)
    · exact hostTurn_platform_refused hprogram (platformIndex_not_one_word hlow hhigh hsize)
    · subst hsize
      exact hostTurn_platform_refused hprogram (platformIndex_misaligned hlow hhigh halign)

/-- Settles O18: the four fields a HOST turn can touch while busy hold nothing of the command. -/
theorem hostTurnsKeepTheCommandInFlight : Obligations.HostTurnsKeepTheCommandInFlight := by
  intro s t hbusy hturn
  obtain ⟨u, p, r, n, rfl, hsame⟩ := hostTurn_cases_of_busy hbusy hturn
  exact ⟨rfl, rfl, rfl, rfl, rfl, rfl, rfl, hsame⟩

end Sys2Proof.Machine
end

section
/-! The words of the formats, bit by bit: a word is in a format, with given operands, exactly when its fields hold them and its
reserved bits are clear (R91 to R98). Decoder and encoder then agree (R99 to R101). -/

namespace Sys2Proof

section
variable {w : Word}

/-! ## Fields of a word -/

/-- A word is the whole of its own bits. -/
theorem eq_iff_eq_extractLsb' {v : Word} : v = w ↔ v = w.extractLsb' 0 32 := by
  rw [BitVec.extractLsb'_eq_self]

/-- A field is a concatenation exactly when its low and its high part are the two halves. -/
theorem append_eq_extractLsb'_iff {n k lo : Nat} {x : BitVec n} {y : BitVec k} :
    x ++ y = w.extractLsb' lo (n + k) ↔ w.extractLsb' lo k = y ∧ x = w.extractLsb' (lo + k) n := by
  rw [← BitVec.extractLsb'_append_extractLsb'_eq_extractLsb' rfl]
  constructor
  · intro h
    have hlow := congrArg (BitVec.extractLsb' 0 k) h
    have hhigh := congrArg (BitVec.extractLsb' k n) h
    rw [BitVec.extractLsb'_append_eq_right, BitVec.extractLsb'_append_eq_right] at hlow
    rw [BitVec.extractLsb'_append_eq_left, BitVec.extractLsb'_append_eq_left] at hhigh
    exact ⟨hlow.symm, hhigh⟩
  · rintro ⟨rfl, rfl⟩
    rfl

/-- The reserved field w[31:lo] is clear exactly when nothing is left above bit lo - 1 (R101). -/
theorem zero_eq_extractLsb'_iff {lo len : Nat} (h : lo + len = 32) : 0#len = w.extractLsb' lo len ↔ w >>> lo = 0 := by
  have hlt : (w >>> lo).toNat < 2 ^ len := by
    simpa [← h] using BitVec.toNat_ushiftRight_lt w lo (by omega)
  rw [eq_comm, ← BitVec.toNat_inj, ← BitVec.toNat_inj, BitVec.extractLsb'_toNat, ← BitVec.toNat_ushiftRight,
    Nat.mod_eq_of_lt hlt]
  simp

/-! ## Formats (R92 to R98) -/

section
variable {op a b : Byte}

theorem encodeN_eq_iff : encodeN op = w ↔ opcodeField w = op ∧ w >>> 8 = 0 := by
  rw [encodeN, eq_iff_eq_extractLsb', append_eq_extractLsb'_iff, zero_eq_extractLsb'_iff rfl]
  rfl

theorem encodeK_eq_iff {field : BitVec 2} :
    encodeK op field = w ↔ opcodeField w = op ∧ twoBitField w = field ∧ w >>> 10 = 0 := by
  rw [encodeK, eq_iff_eq_extractLsb', append_eq_extractLsb'_iff, append_eq_extractLsb'_iff, zero_eq_extractLsb'_iff rfl]
  rfl

theorem encodeR_eq_iff {ridx : BitVec 4} :
    encodeR op ridx = w ↔ opcodeField w = op ∧ ridxField w = ridx ∧ w >>> 12 = 0 := by
  rw [encodeR, eq_iff_eq_extractLsb', append_eq_extractLsb'_iff, append_eq_extractLsb'_iff, zero_eq_extractLsb'_iff rfl]
  rfl

theorem encodeB_eq_iff : encodeB op a = w ↔ opcodeField w = op ∧ aField w = a ∧ w >>> 16 = 0 := by
  rw [encodeB, eq_iff_eq_extractLsb', append_eq_extractLsb'_iff, append_eq_extractLsb'_iff, zero_eq_extractLsb'_iff rfl]
  rfl

theorem encodeG_eq_iff :
    encodeG op a b = w ↔ opcodeField w = op ∧ aField w = a ∧ bField w = b ∧ w >>> 24 = 0 := by
  rw [encodeG, eq_iff_eq_extractLsb', append_eq_extractLsb'_iff, append_eq_extractLsb'_iff, append_eq_extractLsb'_iff,
    zero_eq_extractLsb'_iff rfl]
  rfl

theorem encodeT_eq_iff {tsel : BitVec 3} :
    encodeT op a tsel = w ↔ opcodeField w = op ∧ aField w = a ∧ tselField w = tsel ∧ w >>> 19 = 0 := by
  rw [encodeT, eq_iff_eq_extractLsb', append_eq_extractLsb'_iff, append_eq_extractLsb'_iff, append_eq_extractLsb'_iff,
    zero_eq_extractLsb'_iff rfl]
  rfl

end

/-! ## Decoding an encoded command -/

/-- The word of a well-formed command decodes to it: fixed words by evaluation, words with operands by their format. -/
theorem decode_of_encode_eq {i : Instr} (hi : i.wellFormed = true) (h : encode i = w) : decode w = .ok i := by
  cases i with
  | keyexp =>
    obtain ⟨hop, hklen, hreserved⟩ := encodeK_eq_iff.1 h
    simp [decode, ifReservedClear, hop, hklen, hreserved]
  | addrk =>
    obtain ⟨hop, hridx, hreserved⟩ := encodeR_eq_iff.1 h
    simp [decode, ifReservedClear, hop, hridx, hreserved]
  | gfmul =>
    obtain ⟨hop, ha, hb, hreserved⟩ := encodeG_eq_iff.1 h
    simp [decode, ifReservedClear, hop, ha, hb, hreserved]
  | gftab a tsel =>
    obtain ⟨hop, ha, htsel, hreserved⟩ := encodeT_eq_iff.1 h
    have hnamed : tsel.toNat ≤ 5 := of_decide_eq_true hi
    simp [decode, decodeGftab, hop, ha, htsel, hreserved, hnamed]
  | sbox | invsbox =>
    obtain ⟨hop, ha, hreserved⟩ := encodeB_eq_iff.1 h
    simp [decode, ifReservedClear, hop, ha, hreserved]
  | _ => subst h; rfl

/-! ## Encoding a decoded command -/

/-- `w` is the word of the well-formed command `i`. -/
def IsWordOf (w : Word) (i : Instr) : Prop := encode i = w ∧ i.wellFormed = true

/-- A decoder arm accepts only words of its command, given that a word with clear reserved bits is one. -/
theorem isWordOf_of_ifReservedClear {lo : Nat} {i j : Instr} (hj : w >>> lo = 0 → IsWordOf w j)
    (h : ifReservedClear w lo j = .ok i) : IsWordOf w i := by
  rw [ifReservedClear] at h
  split at h
  · next hreserved =>
    cases h
    exact hj hreserved
  · cases h

/-- GFTAB's arm accepts words of a GFTAB that names a table only (R98). -/
theorem isWordOf_of_decodeGftab {i : Instr} (hop : opcodeField w = 0x31) (h : decodeGftab w = .ok i) : IsWordOf w i := by
  rw [decodeGftab] at h
  split at h
  · next hreserved =>
    split at h
    · next hnamed =>
      cases h
      exact ⟨encodeT_eq_iff.2 ⟨hop, rfl, rfl, hreserved⟩, decide_eq_true hnamed⟩
    · cases h
  · cases h

/-- MENC's rows are one format M, MODE its operand (R94, R100). -/
theorem isWordOf_mencOfMode {mode : BitVec 2} (h : encodeK 0x10 mode = w) : IsWordOf w (mencOfMode mode) := by
  subst h
  rw [IsWordOf]
  revert mode
  decide

/-- MDEC's rows are one format M, MODE its operand (R94, R100). -/
theorem isWordOf_mdecOfMode {mode : BitVec 2} (h : encodeK 0x11 mode = w) : IsWordOf w (mdecOfMode mode) := by
  subst h
  rw [IsWordOf]
  revert mode
  decide

/-- A word that decodes is the word of what it decodes to: one case for each opcode, by its format. -/
theorem isWordOf_of_decode {i : Instr} : decode w = .ok i → IsWordOf w i := by
  fun_cases decode w
  case case2 => -- KEYEXP, format K
    rename_i hop
    exact isWordOf_of_ifReservedClear fun hreserved => ⟨encodeK_eq_iff.2 ⟨hop, rfl, hreserved⟩, rfl⟩
  case case7 => -- MENC, format M
    rename_i hop
    exact isWordOf_of_ifReservedClear fun hreserved => isWordOf_mencOfMode (encodeK_eq_iff.2 ⟨hop, rfl, hreserved⟩)
  case case8 => -- MDEC, format M
    rename_i hop
    exact isWordOf_of_ifReservedClear fun hreserved => isWordOf_mdecOfMode (encodeK_eq_iff.2 ⟨hop, rfl, hreserved⟩)
  case case15 => -- ADDRK, format R
    rename_i hop
    exact isWordOf_of_ifReservedClear fun hreserved => ⟨encodeR_eq_iff.2 ⟨hop, rfl, hreserved⟩, rfl⟩
  case case16 => -- GFMUL, format G
    rename_i hop
    exact isWordOf_of_ifReservedClear fun hreserved => ⟨encodeG_eq_iff.2 ⟨hop, rfl, rfl, hreserved⟩, rfl⟩
  case case17 => -- GFTAB, format T
    rename_i hop
    exact isWordOf_of_decodeGftab hop
  case case18 | case19 => -- SBOX and INVSBOX, format B
    rename_i hop
    exact isWordOf_of_ifReservedClear fun hreserved => ⟨encodeB_eq_iff.2 ⟨hop, rfl, hreserved⟩, rfl⟩
  case case20 => exact nofun -- an undefined opcode
  all_goals -- the others are in format N
    rename_i hop
    exact isWordOf_of_ifReservedClear fun hreserved => ⟨encodeN_eq_iff.2 ⟨hop, hreserved⟩, rfl⟩

/-- The decoder is the inverse of the encoder on well-formed commands. -/
theorem decode_eq_ok_iff {i : Instr} : decode w = .ok i ↔ IsWordOf w i :=
  ⟨isWordOf_of_decode, fun ⟨hword, hwf⟩ => decode_of_encode_eq hwf hword⟩

end

/-- Settles O1: the fields of the word are the operands, and the bits above them are clear. -/
theorem decodeOfEncodeIsTheCommand : Obligations.DecodeOfEncodeIsTheCommand :=
  fun _ hwf => decode_eq_ok_iff.2 ⟨rfl, hwf⟩

/-- Settles O2: each arm of the decoder reads every bit of its format. -/
theorem encodeOfDecodeIsTheWord : Obligations.EncodeOfDecodeIsTheWord :=
  fun _ _ h => decode_eq_ok_iff.1 h

/-- Settles O4: each word by evaluation. -/
theorem writtenOutWordsDecode : Obligations.WrittenOutWordsDecode := by
  unfold Obligations.WrittenOutWordsDecode
  decide

end Sys2Proof
end

section
/-! The rows of the opcode map: a match/mask pair fixes the opcode and the bits above the operands (R100). -/

namespace Sys2Proof.Machine

section
variable {w : Word}

/-! ## Masks -/

/-- Nothing is left above bit `lo` - 1 exactly when the bits from `lo` up are clear. -/
theorem ushiftRight_eq_zero_iff {lo : Nat} : w >>> lo = 0 ↔ ∀ i : Fin 32, lo ≤ i.val → w.getLsbD i = false := by
  constructor
  · intro h i hi
    simpa [hi] using congrArg (BitVec.getLsbD · (i - lo)) h
  · intro h
    ext i hi
    by_cases hlt : lo + i < 32
    · simpa using h ⟨lo + i, hlt⟩ (Nat.le_add_right lo i)
    · simpa using BitVec.getLsbD_of_ge w (lo + i) (by omega)

/-- A mask of every bit but w[lo-1:8] asks for the opcode and for clear bits from `lo` up. -/
theorem and_mask_eq_encodeN_iff (mask : Word) (lo : Nat) (op : Byte) (hlo : 8 ≤ lo)
    (hmask : ∀ i : Fin 32, mask.getLsbD i = decide (i.val < 8 ∨ lo ≤ i.val)) :
    w &&& mask = encodeN op ↔ opcodeField w = op ∧ w >>> lo = 0 := by
  have hop : opcodeField (w &&& mask) = opcodeField w := by
    ext i hi
    simp [opcodeField, hmask ⟨i, by omega⟩, hi]
  have hreserved : (w &&& mask) >>> 8 = 0 ↔ w >>> lo = 0 := by
    rw [ushiftRight_eq_zero_iff, ushiftRight_eq_zero_iff]
    refine forall_congr' fun i => ?_
    rw [BitVec.getLsbD_and, hmask i]
    cases w.getLsbD i
    · simp
    · simp only [Bool.true_and, decide_eq_false_iff_not, Bool.true_eq_false, imp_false]
      omega
  rw [eq_comm, encodeN_eq_iff, hop, hreserved]

/-! ## The rows with operands (R93, R95 to R98, R100) -/

theorem matches_keyexp_row_iff : w &&& 0xFFFFFCFF = 0x00000001 ↔ opcodeField w = 0x01 ∧ w >>> 10 = 0 :=
  and_mask_eq_encodeN_iff 0xFFFFFCFF 10 0x01 (by decide) (by decide)

theorem matches_addrk_row_iff : w &&& 0xFFFFF0FF = 0x00000026 ↔ opcodeField w = 0x26 ∧ w >>> 12 = 0 :=
  and_mask_eq_encodeN_iff 0xFFFFF0FF 12 0x26 (by decide) (by decide)

theorem matches_gfmul_row_iff : w &&& 0xFF0000FF = 0x00000030 ↔ opcodeField w = 0x30 ∧ w >>> 24 = 0 :=
  and_mask_eq_encodeN_iff 0xFF0000FF 24 0x30 (by decide) (by decide)

theorem matches_gftab_row_iff : w &&& 0xFFF800FF = 0x00000031 ↔ opcodeField w = 0x31 ∧ w >>> 19 = 0 :=
  and_mask_eq_encodeN_iff 0xFFF800FF 19 0x31 (by decide) (by decide)

theorem matches_sbox_row_iff : w &&& 0xFFFF00FF = 0x00000032 ↔ opcodeField w = 0x32 ∧ w >>> 16 = 0 :=
  and_mask_eq_encodeN_iff 0xFFFF00FF 16 0x32 (by decide) (by decide)

theorem matches_invsbox_row_iff : w &&& 0xFFFF00FF = 0x00000033 ↔ opcodeField w = 0x33 ∧ w >>> 16 = 0 :=
  and_mask_eq_encodeN_iff 0xFFFF00FF 16 0x33 (by decide) (by decide)

/-! ## Rows and commands -/

/-- A row has no operands and its word decodes, or is one of the six with operands. -/
theorem opcodeRows_cases : ∀ r ∈ opcodeRows,
    (r.mask = BitVec.allOnes 32 ∧ (decode r.bits).isOk = true) ∨
    r ∈ ([⟨0x00000001, 0xFFFFFCFF⟩, ⟨0x00000026, 0xFFFFF0FF⟩, ⟨0x00000030, 0xFF0000FF⟩, ⟨0x00000031, 0xFFF800FF⟩,
      ⟨0x00000032, 0xFFFF00FF⟩, ⟨0x00000033, 0xFFFF00FF⟩] : List OpcodeRow) := by decide

/-- The word of a command matches the command's row. -/
theorem exists_opcodeRow_of_isWordOf {i : Instr} (h : IsWordOf w i) : ∃ r ∈ opcodeRows, w &&& r.mask = r.bits := by
  obtain ⟨hword, -⟩ := h
  cases i with
  | keyexp =>
    obtain ⟨hop, -, hreserved⟩ := encodeK_eq_iff.1 hword
    exact ⟨⟨0x00000001, 0xFFFFFCFF⟩, by decide, matches_keyexp_row_iff.2 ⟨hop, hreserved⟩⟩
  | addrk =>
    obtain ⟨hop, -, hreserved⟩ := encodeR_eq_iff.1 hword
    exact ⟨⟨0x00000026, 0xFFFFF0FF⟩, by decide, matches_addrk_row_iff.2 ⟨hop, hreserved⟩⟩
  | gfmul =>
    obtain ⟨hop, -, -, hreserved⟩ := encodeG_eq_iff.1 hword
    exact ⟨⟨0x00000030, 0xFF0000FF⟩, by decide, matches_gfmul_row_iff.2 ⟨hop, hreserved⟩⟩
  | gftab =>
    obtain ⟨hop, -, -, hreserved⟩ := encodeT_eq_iff.1 hword
    exact ⟨⟨0x00000031, 0xFFF800FF⟩, by decide, matches_gftab_row_iff.2 ⟨hop, hreserved⟩⟩
  | sbox =>
    obtain ⟨hop, -, hreserved⟩ := encodeB_eq_iff.1 hword
    exact ⟨⟨0x00000032, 0xFFFF00FF⟩, by decide, matches_sbox_row_iff.2 ⟨hop, hreserved⟩⟩
  | invsbox =>
    obtain ⟨hop, -, hreserved⟩ := encodeB_eq_iff.1 hword
    exact ⟨⟨0x00000033, 0xFFFF00FF⟩, by decide, matches_invsbox_row_iff.2 ⟨hop, hreserved⟩⟩
  | _ => subst hword; decide

/-- Field OP of a command's word is the command's opcode (R91). -/
theorem opcodeField_encode (i : Instr) : opcodeField (encode i) = opcodeOf i := by
  cases i with
  | keyexp klen => exact Laws.Opcode.keyexp klen
  | addrk ridx => exact Laws.Opcode.addrk ridx
  | gfmul a b => exact Laws.Opcode.gfmul a b
  | gftab a tsel => exact Laws.Opcode.gftab a tsel
  | sbox a => exact Laws.Opcode.sbox a
  | invsbox a => exact Laws.Opcode.invsbox a
  | _ => rfl


/-- Only a GFTAB that names a table has GFTAB's opcode (R98). -/
theorem tselField_le_of_isWordOf {i : Instr} (h : IsWordOf w i) (hop : opcodeField w = 0x31) :
    (tselField w).toNat ≤ 5 := by
  obtain ⟨hword, hwf⟩ := h
  cases i with
  | gftab a tsel =>
    obtain ⟨-, -, rfl, -⟩ := encodeT_eq_iff.1 hword
    exact of_decide_eq_true hwf
  | _ =>
    rw [← hword, opcodeField_encode] at hop
    simp [opcodeOf] at hop

/-- A word that matches a row is a command's, GFTAB's reserved table selects apart. -/
theorem exists_isWordOf_of_opcodeRow {r : OpcodeRow} (hr : r ∈ opcodeRows) (hmatch : w &&& r.mask = r.bits)
    (htsel : opcodeField w = 0x31 → (tselField w).toNat ≤ 5) : ∃ i, IsWordOf w i := by
  rcases opcodeRows_cases r hr with ⟨hmask, hdecodes⟩ | hoperands
  · rw [hmask, BitVec.and_allOnes] at hmatch
    rw [← hmatch] at hdecodes
    cases hdecode : decode w with
    | ok i => exact ⟨i, decode_eq_ok_iff.1 hdecode⟩
    | error e => rw [hdecode] at hdecodes; cases hdecodes
  · simp only [List.mem_cons, List.not_mem_nil, or_false] at hoperands
    rcases hoperands with rfl | rfl | rfl | rfl | rfl | rfl
    · obtain ⟨hop, hreserved⟩ := matches_keyexp_row_iff.1 hmatch
      exact ⟨.keyexp (twoBitField w), encodeK_eq_iff.2 ⟨hop, rfl, hreserved⟩, rfl⟩
    · obtain ⟨hop, hreserved⟩ := matches_addrk_row_iff.1 hmatch
      exact ⟨.addrk (ridxField w), encodeR_eq_iff.2 ⟨hop, rfl, hreserved⟩, rfl⟩
    · obtain ⟨hop, hreserved⟩ := matches_gfmul_row_iff.1 hmatch
      exact ⟨.gfmul (aField w) (bField w), encodeG_eq_iff.2 ⟨hop, rfl, rfl, hreserved⟩, rfl⟩
    · obtain ⟨hop, hreserved⟩ := matches_gftab_row_iff.1 hmatch
      exact ⟨.gftab (aField w) (tselField w), encodeT_eq_iff.2 ⟨hop, rfl, rfl, hreserved⟩, decide_eq_true (htsel hop)⟩
    · obtain ⟨hop, hreserved⟩ := matches_sbox_row_iff.1 hmatch
      exact ⟨.sbox (aField w), encodeB_eq_iff.2 ⟨hop, rfl, hreserved⟩, rfl⟩
    · obtain ⟨hop, hreserved⟩ := matches_invsbox_row_iff.1 hmatch
      exact ⟨.invsbox (aField w), encodeB_eq_iff.2 ⟨hop, rfl, hreserved⟩, rfl⟩

end

/-- Settles O3: the legal words are the words of well-formed commands, and those are the matches of the rows. -/
theorem legalWordsAreTheRowsOfTheOpcodeMap : Obligations.LegalWordsAreTheRowsOfTheOpcodeMap := by
  intro w
  simp only [decode_eq_ok_iff, not_and, not_lt]
  constructor
  · rintro ⟨i, h⟩
    exact ⟨exists_opcodeRow_of_isWordOf h, tselField_le_of_isWordOf h⟩
  · rintro ⟨⟨r, hr, hmatch⟩, htsel⟩
    exact exists_isWordOf_of_opcodeRow hr hmatch htsel

end Sys2Proof.Machine
end

section
/-! Assembler lines: the number R105 writes for a line is the number of its command's word (R95 to R98). -/

namespace Sys2Proof.Machine

/-! ## Command words as numbers (R95 to R98) -/

/-- The number of a word with one operand above OP. -/
theorem toNat_append_append {n k : Nat} (op : Byte) (field : BitVec k) :
    (0#n ++ field ++ op).toNat = op.toNat ||| field.toNat <<< 8 := by
  simp [Nat.or_comm]

/-- The number of a word with the byte A and one more operand above OP. -/
theorem toNat_append_append_append {n k : Nat} (op a : Byte) (field : BitVec k) :
    (0#n ++ field ++ a ++ op).toNat = op.toNat ||| a.toNat <<< 8 ||| field.toNat <<< 16 := by
  simp only [BitVec.toNat_append, BitVec.toNat_ofNat, Nat.zero_mod, Nat.zero_shiftLeft, Nat.zero_or,
    Nat.shiftLeft_or_distrib, ← Nat.shiftLeft_add]
  ac_rfl

theorem ofNat_eq_of_toNat {w : Word} {n : Nat} (h : w.toNat = n) : BitVec.ofNat 32 n = w := by
  rw [← h, BitVec.ofNat_toNat, BitVec.setWidth_eq]

theorem ofNat_eq_encodeR (op : Byte) (ridx : BitVec 4) :
    BitVec.ofNat 32 (op.toNat ||| ridx.toNat <<< 8) = encodeR op ridx :=
  ofNat_eq_of_toNat (toNat_append_append op ridx)

theorem ofNat_eq_encodeB (op a : Byte) : BitVec.ofNat 32 (op.toNat ||| a.toNat <<< 8) = encodeB op a :=
  ofNat_eq_of_toNat (toNat_append_append op a)

theorem ofNat_eq_encodeG (op a b : Byte) :
    BitVec.ofNat 32 (op.toNat ||| a.toNat <<< 8 ||| b.toNat <<< 16) = encodeG op a b :=
  ofNat_eq_of_toNat (toNat_append_append_append op a b)

theorem ofNat_eq_encodeT (op a : Byte) (tsel : BitVec 3) :
    BitVec.ofNat 32 (op.toNat ||| a.toNat <<< 8 ||| tsel.toNat <<< 16) = encodeT op a tsel :=
  ofNat_eq_of_toNat (toNat_append_append_append op a tsel)

/-! ## Lines with numbers (R105) -/

/-- An operand that fits its field is the field's value; any other is refused. -/
theorem fits_eq {k bound : Nat} (h : bound < 2 ^ k) (n : Nat) :
    fits bound n = if n ≤ bound then some (BitVec.ofNat k n).toNat else none := by
  rw [fits]
  split_ifs with hn
  · rw [BitVec.toNat_ofNat, Nat.mod_eq_of_lt (by omega)]
  · rfl

theorem assemble_addrk (r : Nat) :
    (AsmLine.addrk r).assemble = if r ≤ 15 then some (encode (.addrk (BitVec.ofNat 4 r))) else none := by
  rw [AsmLine.assemble, AsmLine.number, fits_eq (k := 4) (by decide), encode, ← ofNat_eq_encodeR]
  split_ifs <;> rfl

theorem assemble_gfmul (a b : Nat) : (AsmLine.gfmul a b).assemble =
    if a ≤ 255 ∧ b ≤ 255 then some (encode (.gfmul (BitVec.ofNat 8 a) (BitVec.ofNat 8 b))) else none := by
  rw [AsmLine.assemble, AsmLine.number, fits_eq (k := 8) (by decide), fits_eq (k := 8) (by decide), encode,
    ← ofNat_eq_encodeG]
  by_cases ha : a ≤ 255
  · by_cases hb : b ≤ 255
    · rw [if_pos ha, if_pos hb, if_pos ⟨ha, hb⟩]
      rfl
    · rw [if_pos ha, if_neg hb, if_neg (not_and_of_not_right _ hb)]
      rfl
  · rw [if_neg ha, if_neg (not_and_of_not_left _ ha)]
    rfl

theorem TableName.toNat_tsel (t : TableName) : (BitVec.ofNat 3 t.tsel).toNat = t.tsel := by
  cases t <;> rfl

theorem assemble_gftab (a : Nat) (t : TableName) : (AsmLine.gftab a t).assemble =
    if a ≤ 255 then some (encode (.gftab (BitVec.ofNat 8 a) (BitVec.ofNat 3 t.tsel))) else none := by
  rw [AsmLine.assemble, AsmLine.number, fits_eq (k := 8) (by decide), encode, ← ofNat_eq_encodeT, t.toNat_tsel]
  split_ifs <;> rfl

theorem assemble_sbox (a : Nat) :
    (AsmLine.sbox a).assemble = if a ≤ 255 then some (encode (.sbox (BitVec.ofNat 8 a))) else none := by
  rw [AsmLine.assemble, AsmLine.number, fits_eq (k := 8) (by decide), encode, ← ofNat_eq_encodeB]
  split_ifs <;> rfl

theorem assemble_invsbox (a : Nat) :
    (AsmLine.invsbox a).assemble = if a ≤ 255 then some (encode (.invsbox (BitVec.ofNat 8 a))) else none := by
  rw [AsmLine.assemble, AsmLine.number, fits_eq (k := 8) (by decide), encode, ← ofNat_eq_encodeB]
  split_ifs <;> rfl

theorem assemble_cmdword (w : Nat) :
    (AsmLine.cmdword w).assemble = if w < 2 ^ 32 then some (BitVec.ofNat 32 w) else none := by
  rw [AsmLine.assemble, AsmLine.number, fits, apply_ite (Option.map (BitVec.ofNat 32))]
  simp [Nat.lt_iff_le_pred]

/-- Settles O5: lines without numbers by evaluation, the others by the number each format's word is. -/
theorem assembledLinesAreTheirCommands : Obligations.AssembledLinesAreTheirCommands :=
  ⟨rfl, rfl, rfl, rfl, rfl, rfl, rfl, rfl, rfl, rfl, rfl, rfl, rfl, rfl, rfl, rfl, rfl, rfl, rfl, rfl,
    assemble_addrk, assemble_gfmul, assemble_gftab, assemble_sbox, assemble_invsbox, assemble_cmdword⟩

end Sys2Proof.Machine
end

section
/-! What an illegal word in flight and a WAIT do in their turn. -/

namespace Sys2Proof.Machine

/-- The ENGINE's turn with a command in flight is its completion (R122). -/
theorem step_engine_of_busy {s : State} (hagent : s.nextAgent = .engine) (hbusy : s.status.busy = true) :
    step s = complete s.beginTurn := by
  rw [step, hagent, turn, engineTurn_of_busy (s := s.beginTurn) hbusy]

/-- An illegal word completes by recording IllegalCommand (R101, R254). -/
theorem complete_of_illegal {s : State} {e : IllegalWord} (h : decode s.cmd = .error e) :
    complete s = .next (s.record .illegalCommand).endCommand := by
  rw [complete, execute, h]
  rfl

/-- Recording an error in one equation: ERR is set, and a first error gives its code (R252). -/
theorem Status.record_eq (t : Status) (e : ErrCode) :
    t.record e = { t with err := true, errcode := if t.err = true then t.errcode else e } := by
  cases herr : t.err
  · rw [Status.record_of_not_err e t herr]
    rfl
  · rw [Status.record_of_err e t herr, if_pos rfl, ← herr]

/-- Settles O7: the completion of an illegal word is the error record and the fall of BUSY. -/
theorem illegalWordOnlyRecordsIllegalCommand : Obligations.IllegalWordOnlyRecordsIllegalCommand := by
  intro s e hschedule hbusy hdecode
  rw [step_engine_of_busy (State.nextAgent_of_head? hschedule) hbusy, complete_of_illegal (s := s.beginTurn) hdecode,
    State.record, Status.record_eq]
  rfl

/-- Settles O15: the bit that WAIT tests is BUSY, and STATUS is never a draw. -/
theorem waitEndsExactlyWhenNoCommandIsInFlight : Obligations.WaitEndsExactlyWhenNoCommandIsInFlight := by
  intro s rest hprogram
  rw [hostTurn_of_bus hprogram, BusOp.perform, State.busRead, State.busValue_statusIndex, Status.toWord_bit_zero,
    regAt_statusIndex, State.isDraw_status, hprogram]
  rfl

end Sys2Proof.Machine
end

section
/-! The completion of a legal word in the ENGINE's turn, and what executing a word may write (R122 to R124, R129). -/

namespace Sys2Proof.Machine

/-! ## The ENGINE's turn -/

section
variable {s t : State} {i : Instr} {w : Word}

/-- With no turn scheduled and a command in flight, the ENGINE has the turn (log 4). -/
theorem State.nextAgent_of_busy (hs : s.schedule = []) (hb : s.status.busy = true) : s.nextAgent = .engine := by
  simp [State.nextAgent, hs, hb]

/-- The ENGINE's turn with no command in flight changes nothing (R122). -/
theorem step_engine_of_idle (hagent : s.nextAgent = .engine) (hidle : s.status.busy = false) :
    step s = .next s.beginTurn := by
  rw [step, hagent, turn, engineTurn_of_idle (s := s.beginTurn) hidle]

/-- A legal word executes as its command (R123). -/
theorem execute_of_decode (h : decode w = .ok i) (s : State) : execute w s = exec i s := by
  rw [execute, h]

/-- A legal word completes with its command's effect, then BUSY falls (R122). -/
theorem complete_of_decode (h : decode s.cmd = .ok i) (hexec : exec i s = .next t) :
    complete s = .next t.endCommand := by
  rw [complete, execute_of_decode h, hexec]

/-! ## Executing a word -/

/-- The effect of a legal word is one of its command's (R123). -/
theorem execute_effect (h : decode w = .ok i) (hexecute : execute w s = .next t) : CommandEffect s i t := by
  obtain ⟨u, hu, heffect⟩ := exec_hasEffect i s
  rw [execute_of_decode h, hu] at hexecute
  exact Host.Outcome.next.inj hexecute ▸ heffect

/-- An illegal word touches the error record only (R101, R254). -/
theorem execute_of_illegal {e : IllegalWord} (h : decode w = .error e) (s : State) :
    execute w s = .next (s.record .illegalCommand) := by
  rw [execute, h]
  rfl

/-- No index but 1 names STATUS (R51). -/
theorem regAtNat_ne_status {n : Nat} (hn : n ≠ 1) : regAtNat n ≠ .status := by
  fun_cases regAtNat n
  case case2 h => exact absurd h hn
  all_goals exact nofun

/-- A command changes no word of the window outside its destination set, STATUS apart (R124). -/
theorem CommandEffect.windowWords_of_not_drawn (heffect : CommandEffect s i t) {n : Nat} (hn : n ≠ 1)
    (h : drawnIndex i n = false) : t.windowWords.getD n 0 = s.windowWords.getD n 0 := by
  rw [drawnIndex_eq_regIn] at h
  rw [State.windowWords_getD, State.windowWords_getD, heffect.readReg_of_not_dest (regAtNat_ne_status hn) h]

/-- Any command but KEYEXP keeps the schedule's fields (R178). -/
theorem CommandEffect.sameSchedule_of_not_keyexp (heffect : CommandEffect s i t) (h : ∀ k, i ≠ .keyexp k) :
    s.status.SameSchedule t.status := by
  refine heffect.sameSchedule fun hdest => ?_
  have hkeyexp := keyexp_of_kvalid_dest hdest
  simp [h] at hkeyexp

/-- Any command but those of R234 keeps SEQ. -/
theorem CommandEffect.seq_of_not_sequence_command (heffect : CommandEffect s i t)
    (h : i ∉ [Instr.seqinit, .seqend, .mencCbc, .mdecCbc, .mencCfb, .mdecCfb]) : t.status.seq = s.status.seq :=
  heffect.seq_of_not_dest fun hdest => h (List.contains_iff_mem.mp (sequence_command_of_seq_dest hdest))

end

/-- Settles O53: the effect of a legal word stays in its destinations, and an illegal word only records its error. -/
theorem commandsWriteOnlyTheirDestinations : Obligations.CommandsWriteOnlyTheirDestinations := by
  intro s w
  obtain ⟨t, ht, houtside⟩ := execute_completes w s
  refine ⟨t, ht, fun i hi => ?_, fun e he => ?_, houtside.busy, houtside.program, houtside.schedule, houtside.rdata,
    houtside.draws⟩
  · have heffect := execute_effect hi ht
    exact ⟨fun n hn hdrawn => heffect.windowWords_of_not_drawn hn hdrawn, heffect.sameSchedule_of_not_keyexp,
      heffect.seq_of_not_sequence_command⟩
  · rw [execute_of_illegal he] at ht
    exact Host.Outcome.next.inj ht ▸ s.record_sameButErrors .illegalCommand

/-- Settles O6: the ENGINE has the turn in both cases of the first premise, and its command completes. -/
theorem engineTurnCompletesTheDecodedCommand : Obligations.EngineTurnCompletesTheDecodedCommand := by
  refine ⟨fun s i hschedule hbusy hdecode => ?_, fun s hschedule hidle => ?_⟩
  · have hengine : s.nextAgent = .engine := by
      rcases hschedule with hhead | hempty
      · exact State.nextAgent_of_head? hhead
      · exact State.nextAgent_of_busy hempty hbusy
    obtain ⟨t, ht, -⟩ := exec_completes i s.beginTurn
    have hexec : exec i { s with schedule := s.schedule.tail, rdata := none } = .next t := ht
    rw [step_engine_of_busy hengine hbusy, complete_of_decode (s := s.beginTurn) hdecode ht, hexec]
    rfl
  · exact step_engine_of_idle (State.nextAgent_of_head? hschedule) hidle

/-- Settles O25: the arm of NOP answers the state it was given. -/
theorem nopChangesNothing : Obligations.NopChangesNothing := fun s => (rfl : execNop s = .next s)

end Sys2Proof.Machine
end

section
/-! The error record never changes what a command does: two states that differ only in it complete to two such states
(R121, R257). -/

namespace Sys2Proof.Machine

/-- The error record replaced. -/
def State.setErrors (e : Bool) (c : ErrCode) (s : State) : State :=
  { s with status := { s.status with err := e, errcode := c } }

/-- Two states are the same but for the error record when the record is all that was replaced. -/
theorem State.sameButErrors_iff {s t : State} : s.sameButErrors t ↔ ∃ e c, t = s.setErrors e c := by
  refine ⟨fun h => ⟨_, _, h⟩, ?_⟩
  rintro ⟨e, c, rfl⟩
  rfl

theorem State.sameButErrors.endCommand {s t : State} (h : s.sameButErrors t) :
    s.endCommand.sameButErrors t.endCommand := by
  obtain ⟨e, c, rfl⟩ := State.sameButErrors_iff.mp h
  rfl

/-- Two results that are next states, the same but for the error record. -/
def Result.SameButErrors (r r' : Result) : Prop := ∃ t u, r = .next t ∧ r' = .next u ∧ t.sameButErrors u

section
variable (s : State) (e : Bool) (c : ErrCode)

/-! ## Shared operations -/

theorem raise_sameButErrors (x : ErrCode) : Result.SameButErrors (raise x s) (raise x (s.setErrors e c)) := by
  refine ⟨_, _, rfl, rfl, ?_⟩
  rw [State.record, State.record, Status.record_eq, Status.record_eq]
  rfl

theorem transformData_sameButErrors (f : Block → Block) :
    Result.SameButErrors (transformData f s) (transformData f (s.setErrors e c)) := ⟨_, _, rfl, rfl, rfl⟩

theorem byteResult_sameButErrors (b : Byte) :
    Result.SameButErrors (byteResult b s) (byteResult b (s.setErrors e c)) := ⟨_, _, rfl, rfl, rfl⟩

theorem chainResult_sameButErrors (out next : Block) :
    Result.SameButErrors (chainResult out next s) (chainResult out next (s.setErrors e c)) := ⟨_, _, rfl, rfl, rfl⟩

/-- The schedule check reads KVALID only (R253). -/
theorem withSchedule_sameButErrors {r r' : Result} (h : Result.SameButErrors r r') :
    Result.SameButErrors (withSchedule s r) (withSchedule (s.setErrors e c) r') := by
  cases k : s.status.kvalid
  · rw [withSchedule_of_not_kvalid k, withSchedule_of_not_kvalid (s := s.setErrors e c) k]
    exact raise_sameButErrors s e c _
  · rw [withSchedule_of_kvalid k, withSchedule_of_kvalid (s := s.setErrors e c) k]
    exact h

/-- The implicit start reads SEQ only (R222). -/
theorem State.openIfNeeded_setErrors : (s.setErrors e c).openIfNeeded = s.openIfNeeded.setErrors e c := by
  cases h : s.status.seq
  · rw [State.openIfNeeded_of_not_seq h, State.openIfNeeded_of_not_seq (s := s.setErrors e c) h]
    rfl
  · rw [State.openIfNeeded_of_seq h, State.openIfNeeded_of_seq (s := s.setErrors e c) h]

/-! ## Commands -/

theorem execKeyexp_sameButErrors (klen : BitVec 2) :
    Result.SameButErrors (execKeyexp klen s) (execKeyexp klen (s.setErrors e c)) := by
  rw [execKeyexp, execKeyexp]
  cases keyShape klen with
  | some => exact ⟨_, _, rfl, rfl, rfl⟩
  | none => exact raise_sameButErrors ((s.setRk rkZero).setStatus s.status.noSchedule) e c _

theorem execAddrk_sameButErrors (ridx : BitVec 4) :
    Result.SameButErrors (execAddrk ridx s) (execAddrk ridx (s.setErrors e c)) := by
  apply withSchedule_sameButErrors
  by_cases h : ridx.toNat ≤ s.status.nr.toNat
  · rw [if_pos h, if_pos (show ridx.toNat ≤ (s.setErrors e c).status.nr.toNat from h)]
    exact transformData_sameButErrors s e c _
  · rw [if_neg h, if_neg (show ¬ ridx.toNat ≤ (s.setErrors e c).status.nr.toNat from h)]
    exact raise_sameButErrors s e c _

theorem execGftab_sameButErrors (a : Byte) (tsel : BitVec 3) :
    Result.SameButErrors (execGftab a tsel s) (execGftab a tsel (s.setErrors e c)) := by
  rw [execGftab, execGftab]
  cases mulRom tsel with
  | some => exact byteResult_sameButErrors s e c _
  | none => exact raise_sameButErrors s e c _

/-- No command reads the error record (R257). -/
theorem exec_sameButErrors (i : Instr) : Result.SameButErrors (exec i s) (exec i (s.setErrors e c)) := by
  cases i with
  | nop | seqinit | seqend => exact ⟨_, _, rfl, rfl, rfl⟩
  | keyexp klen => exact execKeyexp_sameButErrors s e c klen
  | encblk | decblk | mencEcb | mdecEcb => exact withSchedule_sameButErrors s e c (transformData_sameButErrors s e c _)
  | mencCbc | mdecCbc | mencCfb | mdecCfb =>
    apply withSchedule_sameButErrors
    rw [State.openIfNeeded_setErrors]
    exact chainResult_sameButErrors s.openIfNeeded e c _ _
  | mencMode3 | mdecMode3 => exact raise_sameButErrors s e c _
  | subb | invsubb | shrow | invshrow | mixcol | invmixcol => exact transformData_sameButErrors s e c _
  | addrk ridx => exact execAddrk_sameButErrors s e c ridx
  | gfmul | sbox | invsbox => exact byteResult_sameButErrors s e c _
  | gftab a tsel => exact execGftab_sameButErrors s e c a tsel

/-! ## Words -/

theorem execute_sameButErrors (w : Word) : Result.SameButErrors (execute w s) (execute w (s.setErrors e c)) := by
  rw [execute, execute]
  cases decode w with
  | ok i => exact exec_sameButErrors s e c i
  | error => exact raise_sameButErrors s e c _

end

/-- The command in flight completes with the same effect whatever the error record holds (R121). -/
theorem complete_sameButErrors {s s' : State} (h : s.sameButErrors s') :
    Result.SameButErrors (complete s) (complete s') := by
  obtain ⟨e, c, rfl⟩ := State.sameButErrors_iff.mp h
  obtain ⟨t, u, ht, hu, hsame⟩ := execute_sameButErrors s e c s.cmd
  have hcmd : (s.setErrors e c).cmd = s.cmd := rfl
  exact ⟨t.endCommand, u.endCommand, by rw [complete, ht], by rw [complete, hcmd, hu], hsame.endCommand⟩

end Sys2Proof.Machine
end

section
/-! The HOST's accesses of CMD while idle and of the window while a command is in flight (R120, R121, R125, R126). -/

namespace Sys2Proof.Machine

section
variable {s : State} {a : WindowIndex} {rest : List HostOp}

/-! ## Writes -/

/-- A write while busy touches the error record only (R121). -/
theorem State.busWrite_sameButErrors (hbusy : s.status.busy = true) (a : WindowIndex) (v : Word) :
    s.sameButErrors (s.busWrite a v) := by
  rw [State.busWrite_of_busy hbusy]
  split
  · exact s.record_sameButErrors .busyWrite
  · exact State.sameButErrors_iff.mpr ⟨_, _, rfl⟩

/-- A HOST write while busy records BusyWrite, and only at a writable index (R121). -/
theorem hostTurn_write_of_busy {v : Word} (hbusy : s.status.busy = true)
    (hprogram : s.program = .bus (.wr a v) :: rest) :
    hostTurn s = .next { if writableIndex a.toNat then s.record .busyWrite else s with program := rest } := by
  rw [hostTurn_of_bus hprogram, BusOp.perform, State.busWrite_of_busy hbusy, writableIndex_eq_regWritable, regAt]

/-! ## Reads -/

/-- With a legal command in flight the draws are the reads inside its destination set (R125). -/
theorem State.isDraw_of_decode {i : Instr} (hbusy : s.status.busy = true) (hdecode : decode s.cmd = .ok i) :
    s.isDraw (regAt a) = drawnIndex i a.toNat := by
  rw [State.isDraw, hbusy, destSetOfWord, hdecode, drawnIndex_eq_regIn, regAt, Bool.true_and]

/-- An illegal word has no destinations, so with one in flight nothing is a draw (R124). -/
theorem State.isDraw_of_illegal {e : IllegalWord} (hdecode : decode s.cmd = .error e) (r : Reg) :
    s.isDraw r = false := by
  rw [State.isDraw, destSetOfWord, hdecode]
  cases r <;> exact Bool.and_false _

/-- A read that is a draw returns the next draw and uses it up (R125). -/
theorem hostTurn_read_of_draw (hdraw : s.isDraw (regAt a) = true) (hprogram : s.program = .bus (.rd a) :: rest) :
    hostTurn s = .next { s with program := rest, rdata := some (Config.draw s.draws), draws := s.draws + 1 } := by
  rw [hostTurn_of_bus hprogram, BusOp.perform, State.busRead, State.busValue, if_pos hdraw, if_pos hdraw]

/-- A read that is no draw returns the window's word at its index (R126). -/
theorem hostTurn_read_of_not_draw (hdraw : s.isDraw (regAt a) = false) (hprogram : s.program = .bus (.rd a) :: rest) :
    hostTurn s = .next { s with program := rest, rdata := some (s.windowWords.getD a.toNat 0) } := by
  have hreg : ¬ s.isDraw (regAt a) = true := by simp [hdraw]
  rw [hostTurn_of_bus hprogram, BusOp.perform, State.busRead, State.busValue, if_neg hreg, if_neg hreg,
    State.windowWords_getD, regAt]

end

/-- Settles O9: the write reaches the error record only, and no completion depends on that. -/
theorem writeWhileBusyIsDroppedAndRecorded : Obligations.WriteWhileBusyIsDroppedAndRecorded := by
  intro s a v rest hbusy hprogram
  rw [hostTurn_write_of_busy hbusy hprogram]
  refine ⟨fun hwritable => ?_, fun hreadonly => ?_, complete_sameButErrors (State.busWrite_sameButErrors hbusy a v)⟩
  · rw [if_pos hwritable, State.record, Status.record_eq]
    rfl
  · rw [hreadonly]
    rfl

/-- Settles O13: the draws are the destination set of a legal word, and none for an illegal one. -/
theorem busyReadsDrawExactlyTheDestinations : Obligations.BusyReadsDrawExactlyTheDestinations := by
  intro s a rest hbusy hprogram
  refine ⟨fun i hi hdrawn => ?_, fun i hi hdrawn => ?_, fun e he => ?_⟩
  · exact hostTurn_read_of_draw ((State.isDraw_of_decode hbusy hi).trans hdrawn) hprogram
  · exact hostTurn_read_of_not_draw ((State.isDraw_of_decode hbusy hi).trans hdrawn) hprogram
  · exact hostTurn_read_of_not_draw (State.isDraw_of_illegal he _) hprogram

/-- Settles O8: index 0 is CMD, whose idle write is the acceptance. -/
theorem idleCmdWriteIsAccepted : Obligations.IdleCmdWriteIsAccepted := by
  intro s w rest hidle hprogram
  rw [hostTurn_write_of_idle hidle hprogram]
  rfl

end Sys2Proof.Machine
end

section
/-! A command in flight completes: HOST turns keep it in flight, and the schedule of them is finite (R128). -/

namespace Sys2Proof.Machine

/-! ## Runs of a machine -/

section
variable {M : Host.Core} {s t u : M.State} {k : Nat}

/-- A run that begins with a step is that step and the run from where it leads. -/
theorem run_succ_of_step (k : Nat) (h : M.step s = .next t) : M.run (k + 1) s = M.run k t := by
  rw [Host.Core.run, h]

/-- A run that answers next begins with a step that does. -/
theorem step_of_run_succ (h : M.run (k + 1) s = .next u) : ∃ t, M.step s = .next t ∧ M.run k t = .next u := by
  cases hstep : M.step s with
  | next t => exact ⟨t, rfl, run_succ_of_step k hstep ▸ h⟩
  | fault | refused =>
    rw [Host.Core.run, hstep] at h
    cases h

/-- A run of one step is the step. -/
theorem run_one (s : M.State) : M.run 1 s = M.step s := by
  rw [Host.Core.run]
  cases M.step s <;> rfl

/-- One step more than a run is the step from where the run leads. -/
theorem run_succ_of_run (h : M.run k s = .next u) : M.run (k + 1) s = M.step u := by
  induction k generalizing s with
  | zero =>
    obtain rfl : s = u := Host.Outcome.next.inj h
    exact run_one s
  | succ k ih =>
    obtain ⟨t, hstep, hrun⟩ := step_of_run_succ h
    rw [run_succ_of_step (k + 1) hstep, ih hrun]

end

section
variable {s : State}

/-! ## HOST turns with no platform adapter -/

/-- A bus operation leaves a part of the HOST's program: the rest of it, or all of it for a WAIT that stays (R107). -/
theorem BusOp.perform_program_subset {b : BusOp} {rest : List HostOp} (hprogram : s.program = .bus b :: rest) :
    (b.perform rest s).program ⊆ s.program := by
  have hrest : rest ⊆ s.program := hprogram ▸ List.subset_cons_self _ rest
  cases b with
  | rd | wr => exact hrest
  | wait =>
    rw [BusOp.perform]
    split
    · exact List.Subset.refl _
    · exact hrest

/-- A HOST that uses no platform adapter never stops, and goes on using none. -/
theorem hostTurn_next_of_isBus (h : ∀ op ∈ s.program, op.isBus = true) :
    ∃ t, hostTurn s = .next t ∧ ∀ op ∈ t.program, op.isBus = true := by
  cases hprogram : s.program with
  | nil => exact ⟨s, by rw [hostTurn, hprogram], h⟩
  | cons op rest =>
    have hop : op.isBus = true := h op (by simp [hprogram])
    cases op with
    | bus b => exact ⟨_, hostTurn_of_bus hprogram, fun op hmem => h op (BusOp.perform_program_subset hprogram hmem)⟩
    | platformRd | platformWr => cases hop

/-- A HOST turn of such a HOST uses up its entry of the schedule and keeps the command in flight (R67). -/
theorem step_host_keeps_command (hagent : s.nextAgent = .host) (hbusy : s.status.busy = true)
    (h : ∀ op ∈ s.program, op.isBus = true) :
    ∃ t, step s = .next t ∧ t.status.busy = true ∧ t.cmd = s.cmd ∧ t.schedule = s.schedule.tail ∧
      ∀ op ∈ t.program, op.isBus = true := by
  obtain ⟨t, ht, hprogram⟩ := hostTurn_next_of_isBus (s := s.beginTurn) h
  obtain ⟨u, p, r, n, rfl, hsame⟩ := hostTurn_cases_of_busy (s := s.beginTurn) hbusy ht
  obtain ⟨e, c, hu⟩ := State.sameButErrors_iff.mp hsame
  have hkept : u.busy = s.status.busy := congrArg (·.status.busy) hu
  exact ⟨_, (step_host hagent).trans ht, hkept.trans hbusy, rfl, rfl, hprogram⟩

/-! ## The turns before the end of a command -/

/-- The HOST's turns at the head of the schedule over, the same command is in flight, and the turn is the ENGINE's or that of
a reset of the schedule (R128). -/
theorem exists_run_to_engine_or_reset (hbusy : s.status.busy = true) (h : ∀ op ∈ s.program, op.isBus = true) :
    ∃ (k : Nat) (u : State), k ≤ s.schedule.length ∧ core.run k s = .next u ∧ u.status.busy = true ∧ u.cmd = s.cmd ∧
      (u.nextAgent = .engine ∨ ∃ a, Agent.reset a ∈ s.schedule ∧ u.nextAgent = .reset a) := by
  induction hschedule : s.schedule generalizing s with
  | nil => exact ⟨0, s, Nat.le_refl _, rfl, hbusy, rfl, .inl (State.nextAgent_of_busy hschedule hbusy)⟩
  | cons agent rest ih =>
    have hagent : s.nextAgent = agent := State.nextAgent_of_head? (by rw [hschedule]; rfl)
    cases agent with
    | engine => exact ⟨0, s, Nat.zero_le _, rfl, hbusy, rfl, .inl hagent⟩
    | reset a => exact ⟨0, s, Nat.zero_le _, rfl, hbusy, rfl, .inr ⟨a, List.mem_cons_self, hagent⟩⟩
    | host =>
      obtain ⟨t, hstep, htbusy, htcmd, htschedule, htprogram⟩ := step_host_keeps_command hagent hbusy h
      have htail : t.schedule = rest := by rw [htschedule, hschedule, List.tail_cons]
      obtain ⟨k, u, hk, hrun, hubusy, hucmd, hturn⟩ := ih htbusy htprogram htail
      refine ⟨k + 1, u, Nat.succ_le_succ hk, (run_succ_of_step (M := core) k hstep).trans hrun, hubusy, hucmd.trans htcmd, ?_⟩
      exact hturn.imp_right fun ⟨a, hmem, ha⟩ => ⟨a, List.mem_cons_of_mem _ hmem, ha⟩

/-! ## The end of a command -/

/-- The ENGINE's turn ends the command in flight (R122). -/
theorem step_engine_ends_command (hagent : s.nextAgent = .engine) (hbusy : s.status.busy = true) :
    ∃ t, step s = .next t ∧ t.status.busy = false :=
  step_engine_of_busy hagent hbusy ▸ complete_next s.beginTurn

/-- A reset ends any command in flight (R282). -/
theorem step_reset_ends_command {a : Bool} (hagent : s.nextAgent = .reset a) :
    ∃ t, step s = .next t ∧ t.status.busy = false := by
  obtain ⟨p, r, hreset⟩ := resetTurn_eq a s.beginTurn
  exact ⟨_, (step_reset hagent).trans (congrArg _ hreset), rfl⟩

end

/-- Settles O17: once the HOST's turns are over, the step after them ends the command, and with no reset scheduled it is the
ENGINE's. -/
theorem everyCommandInFlightCompletes : Obligations.EveryCommandInFlightCompletes := by
  intro s hbusy hprogram
  obtain ⟨k, u, hk, hrun, hubusy, hucmd, hturn⟩ := exists_run_to_engine_or_reset hbusy hprogram
  constructor
  · have hend : ∃ t, step u = .next t ∧ t.status.busy = false := by
      rcases hturn with hengine | ⟨a, -, hreset⟩
      · exact step_engine_ends_command hengine hubusy
      · exact step_reset_ends_command hreset
    obtain ⟨t, hstep, htbusy⟩ := hend
    exact ⟨k + 1, t, Nat.succ_le_succ hk, (run_succ_of_run (M := core) hrun).trans hstep, htbusy⟩
  · intro hnoreset
    have hengine : u.nextAgent = .engine := hturn.resolve_right fun ⟨a, hmem, _⟩ => hnoreset a hmem
    obtain ⟨t, hstep, htbusy⟩ := step_engine_ends_command hengine hubusy
    exact ⟨k, u, t, hk, hrun, hubusy, hucmd, hengine, step_engine_of_busy hengine hubusy, hstep, htbusy⟩

end Sys2Proof.Machine
end

section
/-! The bytes as polynomials over GF(2) modulo the polynomial of R150: `gf_mul` is the product of their residues. -/

namespace Sys2Proof.Machine

open Polynomial

/-! ## Polynomials of bytes -/

/-- The polynomial over GF(2) whose coefficients are the bits of a byte. -/
noncomputable def bytePoly (a : Byte) : (ZMod 2)[X] :=
  ∑ i ∈ Finset.range 8, if a.getLsbD i = true then X ^ i else 0

/-- The reducing polynomial 0x11B (R150). -/
noncomputable def reducingPoly : (ZMod 2)[X] := X ^ 8 + X ^ 4 + X ^ 3 + X + 1

theorem degree_reducingPoly : reducingPoly.degree = 8 := by
  rw [reducingPoly]
  compute_degree!

theorem coeff_bytePoly (a : Byte) (i : Nat) : (bytePoly a).coeff i = if a.getLsbD i = true then 1 else 0 := by
  have hterm (j : Nat) : (if a.getLsbD j = true then X ^ j else 0 : (ZMod 2)[X]).coeff i =
      if i = j then (if a.getLsbD i = true then 1 else 0) else 0 := by
    by_cases h : i = j <;> split <;> simp_all [coeff_X_pow]
  rw [bytePoly, finsetSum_coeff, Finset.sum_congr rfl fun j _ => hterm j, Finset.sum_ite_eq]
  split
  · rfl
  · next hi => simp [BitVec.getLsbD_of_ge a i (by simpa using hi)]

theorem degree_bytePoly_lt (a : Byte) : (bytePoly a).degree < 8 :=
  (degree_lt_iff_coeff_zero _ 8).mpr fun i hi => by simp [coeff_bytePoly, BitVec.getLsbD_of_ge a i hi]

theorem bytePoly_injective : Function.Injective bytePoly := by
  intro a b h
  apply BitVec.eq_of_getLsbD_eq
  intro i _
  have hcoeff := congrArg (·.coeff i) h
  simp only [coeff_bytePoly] at hcoeff
  cases ha : a.getLsbD i <;> cases hb : b.getLsbD i <;> simp_all

@[simp] theorem bytePoly_zero : bytePoly 0#8 = 0 := by simp [bytePoly]

@[simp] theorem bytePoly_one : bytePoly 1#8 = 1 := by
  ext i
  cases i <;> simp [coeff_bytePoly, coeff_one]

/-- Addition of polynomials over GF(2) is XOR of their bytes (R151). -/
theorem bytePoly_xor (a b : Byte) : bytePoly (a ^^^ b) = bytePoly a + bytePoly b := by
  ext i
  rw [coeff_add, coeff_bytePoly, coeff_bytePoly, coeff_bytePoly, BitVec.getLsbD_xor]
  cases a.getLsbD i <;> cases b.getLsbD i <;> decide

/-- X times a byte is the byte shifted left, with X^8 for the bit shifted out. -/
theorem X_mul_bytePoly (a : Byte) :
    X * bytePoly a = bytePoly (a <<< 1) + (if a.getLsbD 7 = true then X ^ 8 else 0 : (ZMod 2)[X]) := by
  ext i
  rw [coeff_add, apply_ite (Polynomial.coeff · i), coeff_X_pow, coeff_zero, coeff_bytePoly, BitVec.getLsbD_shiftLeft]
  cases i with
  | zero => simp
  | succ i =>
    rw [coeff_X_mul, coeff_bytePoly]
    rcases lt_trichotomy i 7 with hlow | rfl | hhigh
    · have hin : i + 1 < 8 := Nat.succ_lt_succ hlow
      simp [hin, hlow.ne]
    · simp
    · have hout : a.getLsbD i = false := BitVec.getLsbD_of_ge a i hhigh
      simp [hout, hhigh.ne']

/-- Reducing X^8 leaves the byte 0x1B (R150). -/
theorem X_pow_eight : (X ^ 8 : (ZMod 2)[X]) = reducingPoly + bytePoly 0x1B := by
  have hbyte : bytePoly 0x1B = X ^ 4 + X ^ 3 + X + 1 := by
    simp [bytePoly, Finset.sum_range_succ, add_assoc, add_comm]
  rw [reducingPoly, hbyte]
  linear_combination (-(X ^ 4 + X ^ 3 + X + 1)) * CharTwo.two_eq_zero (R := (ZMod 2)[X])

/-! ## Residues of bytes -/

/-- A byte as an element of the polynomials over GF(2) modulo the reducing polynomial. -/
noncomputable def residue (a : Byte) : AdjoinRoot reducingPoly := AdjoinRoot.mk reducingPoly (bytePoly a)

@[simp] theorem residue_zero : residue 0#8 = 0 := by rw [residue, bytePoly_zero, map_zero]

@[simp] theorem residue_one : residue 1#8 = 1 := by rw [residue, bytePoly_one, map_one]

@[simp] theorem residue_xor (a b : Byte) : residue (a ^^^ b) = residue a + residue b := by
  rw [residue, bytePoly_xor, map_add, residue, residue]

/-- Every residue has one byte at most: polynomials of bytes have a degree below the reducing polynomial's. -/
theorem residue_injective : Function.Injective residue := by
  intro a b h
  have hdvd : reducingPoly ∣ bytePoly a - bytePoly b := AdjoinRoot.mk_eq_mk.mp h
  have hdegree : (bytePoly a - bytePoly b).degree < reducingPoly.degree := by
    rw [degree_reducingPoly]
    exact (degree_sub_le _ _).trans_lt (max_lt (degree_bytePoly_lt a) (degree_bytePoly_lt b))
  exact bytePoly_injective (sub_eq_zero.mp (eq_zero_of_dvd_of_degree_lt hdvd hdegree))

/-! ## The loop of R150 -/

/-- One doubling of the loop of R150: a left shift, reduced by 0x1B when a bit is shifted out. -/
def gfDouble (a : Byte) : Byte := if a.getLsbD 7 then a <<< 1 ^^^ 0x1B else a <<< 1

/-- One accumulation of the loop of R150. -/
def gfAccumulate (a b p : Byte) : Byte := if b.getLsbD 0 then p ^^^ a else p

/-- With `b` zero an iteration accumulates nothing (R150). -/
theorem gfMulLoop_zero_right (n : Nat) (a p : Byte) : gfMulLoop n a 0 p = p := by
  cases n <;> simp [gfMulLoop]

/-- An iteration of the loop without its early stop, which changes no result (R150). -/
theorem gfMulLoop_succ (n : Nat) (a b p : Byte) :
    gfMulLoop (n + 1) a b p = gfMulLoop n (gfDouble a) (b >>> 1) (gfAccumulate a b p) := by
  rw [gfMulLoop]
  split
  · next h => rw [h, gfMulLoop_zero_right, gfAccumulate]
  · rfl

/-- Doubling multiplies by X. -/
theorem residue_gfDouble (a : Byte) : residue (gfDouble a) = AdjoinRoot.mk reducingPoly X * residue a := by
  have hreduce : AdjoinRoot.mk reducingPoly (X ^ 8) = residue 0x1B := by
    rw [X_pow_eight, map_add, AdjoinRoot.mk_self, zero_add, residue]
  rw [gfDouble, residue, residue, ← map_mul, X_mul_bytePoly]
  split
  · rw [bytePoly_xor, map_add, map_add, hreduce, residue]
  · rw [add_zero]

/-- A byte is its low bit and the double of its other bits. -/
theorem eq_low_xor_gfDouble : ∀ b : Byte, b = (b &&& 1#8) ^^^ gfDouble (b >>> 1) := by decide

/-- A byte is its low bit and X times its other bits. -/
theorem residue_eq_low_add (b : Byte) :
    residue b = residue (b &&& 1#8) + AdjoinRoot.mk reducingPoly X * residue (b >>> 1) := by
  rw [← residue_gfDouble, ← residue_xor, ← eq_low_xor_gfDouble b]

/-- Accumulating adds `a` times the low bit of `b`. -/
theorem residue_gfAccumulate (a b p : Byte) :
    residue (gfAccumulate a b p) = residue p + residue a * residue (b &&& 1#8) := by
  rw [gfAccumulate]
  split
  · next h =>
    have hlow : b &&& 1#8 = 1#8 := by revert b; decide
    rw [hlow, residue_xor, residue_one, mul_one]
  · next h =>
    have hlow : b &&& 1#8 = 0#8 := by revert b; decide
    rw [hlow, residue_zero, mul_zero, add_zero]

/-- The loop adds the product of `a` and `b` to its accumulator, once it has an iteration for each bit of `b`. -/
theorem residue_gfMulLoop (n : Nat) (a b p : Byte) (h : b.toNat < 2 ^ n) :
    residue (gfMulLoop n a b p) = residue p + residue a * residue b := by
  induction n generalizing a b p with
  | zero =>
    obtain rfl : b = 0 := BitVec.eq_of_toNat_eq (by simpa using h)
    simp [gfMulLoop]
  | succ n ih =>
    have hshift : (b >>> 1).toNat < 2 ^ n := by
      rw [BitVec.toNat_ushiftRight, Nat.shiftRight_eq_div_pow]
      omega
    rw [gfMulLoop_succ, ih _ _ _ hshift, residue_gfAccumulate, residue_gfDouble, residue_eq_low_add b]
    ring

/-- `gf_mul` multiplies residues (R150). -/
@[simp] theorem residue_gfMul (a b : Byte) : residue (gfMul a b) = residue a * residue b := by
  rw [gfMul, residue_gfMulLoop 8 a b 0 b.isLt]
  simp

/-- Settles O43: equal residues differ by a multiple of the reducing polynomial. -/
theorem gfMulIsThePolynomialProduct : Obligations.GfMulIsThePolynomialProduct := by
  unfold Obligations.GfMulIsThePolynomialProduct
  intro P a b
  have hresidue : AdjoinRoot.mk reducingPoly (bytePoly a * bytePoly b) =
      AdjoinRoot.mk reducingPoly (bytePoly (gfMul a b)) := by
    rw [map_mul]
    exact (residue_gfMul a b).symm
  obtain ⟨q, hq⟩ := AdjoinRoot.mk_eq_mk.mp hresidue
  rw [mul_comm reducingPoly] at hq
  exact ⟨q, sub_eq_iff_eq_add.mp hq⟩

/-! ## The laws of `gf_mul` (R151) -/

theorem gfMul_comm (a b : Byte) : gfMul a b = gfMul b a :=
  residue_injective (by simp only [residue_gfMul, mul_comm])

theorem gfMul_assoc (a b c : Byte) : gfMul (gfMul a b) c = gfMul a (gfMul b c) :=
  residue_injective (by simp only [residue_gfMul, mul_assoc])

theorem gfMul_xor (a b c : Byte) : gfMul a (b ^^^ c) = gfMul a b ^^^ gfMul a c :=
  residue_injective (by simp only [residue_gfMul, residue_xor, mul_add])

@[simp] theorem gfMul_zero (a : Byte) : gfMul a 0#8 = 0#8 := residue_injective (by simp)

@[simp] theorem zero_gfMul (a : Byte) : gfMul 0#8 a = 0#8 := residue_injective (by simp)

@[simp] theorem gfMul_one (a : Byte) : gfMul a 1#8 = a := residue_injective (by simp)

@[simp] theorem one_gfMul (a : Byte) : gfMul 1#8 a = a := residue_injective (by simp)

/-- An inverse is unique. -/
theorem eq_of_gfMul_eq_one {a b c : Byte} (hb : gfMul a b = 1) (hc : gfMul a c = 1) : b = c :=
  calc b = gfMul b (gfMul a c) := by simp [hc]
    _ = gfMul (gfMul a b) c := by rw [← gfMul_assoc, gfMul_comm b a]
    _ = c := by simp [hb]

end Sys2Proof.Machine
end

section
/-! The S-box as R156 makes it: undoing the affine map on an entry gives the field inverse of its index. -/

namespace Sys2Proof.Machine

/-- The affine map of R156. -/
def affine (b : Byte) : Byte :=
  b ^^^ b.rotateLeft 1 ^^^ b.rotateLeft 2 ^^^ b.rotateLeft 3 ^^^ b.rotateLeft 4 ^^^ 0x63

/-- The inverse of the affine map of R156. -/
def invAffine (s : Byte) : Byte := s.rotateLeft 1 ^^^ s.rotateLeft 3 ^^^ s.rotateLeft 6 ^^^ 0x05

theorem affine_invAffine : ∀ s : Byte, affine (invAffine s) = s := by decide

/-- The field inverse of a byte, read off the S-box ROM. -/
def gfInverse (a : Byte) : Byte := invAffine (sbox a)

theorem affine_gfInverse (a : Byte) : affine (gfInverse a) = sbox a := affine_invAffine (sbox a)

theorem gfInverse_zero : gfInverse 0 = 0 := by decide

/-- The ROM holds an inverse of every nonzero byte. -/
theorem gfMul_gfInverse : ∀ a : Byte, a ≠ 0 → gfMul a (gfInverse a) = 1 := by decide

/-- The inverse ROM undoes the ROM (R157). -/
theorem invSbox_sbox : ∀ a : Byte, invSbox (sbox a) = a := by decide

/-- The ROM has no fixed point (R160). -/
theorem sbox_ne_self : ∀ a : Byte, sbox a ≠ a := by decide

/-- The ROM undoes the inverse ROM (R157): a one-to-one map of the bytes is onto. -/
theorem sbox_invSbox (a : Byte) : sbox (invSbox a) = a := by
  have hleft : Function.LeftInverse invSbox sbox := invSbox_sbox
  exact hleft.rightInverse_of_surjective (Finite.surjective_of_injective hleft.injective) a

/-- Settles O44: the laws hold of residues, and the S-box ROM gives each nonzero byte its inverse. -/
theorem gfMulObeysTheFieldLaws : Obligations.GfMulObeysTheFieldLaws := by
  refine ⟨fun a => ⟨gfMul_zero a, zero_gfMul a, gfMul_one a, one_gfMul a⟩, gfMul_comm,
    fun a b c => (gfMul_assoc a b c).symm, gfMul_xor, fun a ha => ?_⟩
  exact ⟨gfInverse a, gfMul_gfInverse a ha, fun b hb => eq_of_gfMul_eq_one hb (gfMul_gfInverse a ha)⟩

/-- Settles O46: the inverse in the premise is the one that the S-box ROM holds. -/
theorem sboxIsTheAffineImageOfTheInverse : Obligations.SboxIsTheAffineImageOfTheInverse := by
  refine ⟨fun x y h => ?_, invSbox_sbox, sbox_invSbox⟩
  have hy : y = gfInverse x := by
    rcases h with ⟨rfl, rfl⟩ | hmul
    · exact gfInverse_zero.symm
    · have hx : x ≠ 0 := by
        rintro rfl
        simp at hmul
      exact eq_of_gfMul_eq_one hmul (gfMul_gfInverse x hx)
  rw [← affine_gfInverse, ← hy, affine]

end Sys2Proof.Machine
end

section
/-! The multiply-by ROMs hold products of R150, and the byte commands put one byte into RES (R153, R158 to R161). -/

namespace Sys2Proof.Machine

/-! ## The multiply-by ROMs -/

/-- The multiply-by ROMs with their coefficients, in the order of TSEL (R98, R153). -/
def mulTables : List (Byte × ByteRom) :=
  [(2, mul2Rom), (3, mul3Rom), (9, mul9Rom), (11, mul11Rom), (13, mul13Rom), (14, mul14Rom)]

/-- Every entry of a multiply-by ROM is the product by its coefficient (R153). -/
theorem romByte_eq_gfMul : ∀ p ∈ mulTables, ∀ a : Byte, romByte p.2 a = gfMul p.1 a := by decide

/-- TSEL is an index of the list of ROMs (R98). -/
theorem mulRom_eq (tsel : BitVec 3) : mulRom tsel = mulTables[tsel.toNat]?.map Prod.snd := by
  revert tsel
  decide

/-- Settles O45: the ROMs hold the products by their coefficients, and `gf_mul` is commutative. -/
theorem mulTablesAgreeWithGfMul : Obligations.MulTablesAgreeWithGfMul := by
  intro p hp a
  have hentry : romByte p.2 a = gfMul p.1 a := romByte_eq_gfMul p hp a
  exact ⟨hentry, hentry.trans (gfMul_comm p.1 a)⟩

/-! ## The byte commands -/

theorem zext32_eq_append (b : Byte) : zext32 b = 0#24 ++ b := by
  apply BitVec.eq_of_getLsbD_eq
  intro i hi
  rw [zext32, BitVec.getLsbD_setWidth, BitVec.getLsbD_append]
  split <;> simp_all [BitVec.getLsbD_of_ge]

/-- A byte command puts its byte into bits 7:0 of RES, zero into bits 31:8, and changes nothing else (R26). -/
theorem byteResult_eq (b : Byte) (s : State) : byteResult b s = .next { s with res := 0#24 ++ b } := by
  rw [byteResult, zext32_eq_append, State.setRes]

/-- INVSBOX looks its operand up in the inverse ROM (R161). -/
theorem exec_invsbox (a : Byte) (s : State) : exec (.invsbox a) s = .next { s with res := 0#24 ++ invSbox a } :=
  byteResult_eq (invSbox a) s

/-- GFTAB with a TSEL that names a ROM (R159). -/
theorem exec_gftab_of_lt {tsel : BitVec 3} (h : tsel.toNat < mulTables.length) (a : Byte) (s : State) :
    exec (.gftab a tsel) s = .next { s with res := 0#24 ++ gfMul a mulTables[tsel.toNat].1 } := by
  have hrom : mulRom tsel = some mulTables[tsel.toNat].2 := by
    rw [mulRom_eq, List.getElem?_eq_getElem h, Option.map_some]
  rw [exec, execGftab, hrom, gfMul_comm, ← romByte_eq_gfMul _ (List.getElem_mem h)]
  exact byteResult_eq _ s

/-- GFTAB with a TSEL that names no ROM (R101, log 13). -/
theorem exec_gftab_of_ge {tsel : BitVec 3} (h : mulTables.length ≤ tsel.toNat) (a : Byte) (s : State) :
    exec (.gftab a tsel) s = raise .illegalCommand s := by
  have hrom : mulRom tsel = none := by
    rw [mulRom_eq, List.getElem?_eq_none h, Option.map_none]
  rw [exec, execGftab, hrom]

/-- Settles O40. -/
theorem gfmulPutsTheProductIntoRes : Obligations.GfmulPutsTheProductIntoRes :=
  fun s a b => byteResult_eq (gfMul a b) s

/-- Settles O41: a TSEL is an index of the list of ROMs, and each ROM holds the products by its coefficient. -/
theorem gftabAgreesWithGfmul : Obligations.GftabAgreesWithGfmul := by
  intro s a tsel
  constructor
  · intro hle
    have hlt : tsel.toNat < mulTables.length := Nat.lt_succ_of_le hle
    have hcoefficient : (mulTables.map Prod.fst)[tsel.toNat]? = some mulTables[tsel.toNat].1 := by
      rw [List.getElem?_map, List.getElem?_eq_getElem hlt, Option.map_some]
    have hres := exec_gftab_of_lt hlt a s
    exact ⟨_, hcoefficient, hres, hres.trans (gfmulPutsTheProductIntoRes s a _).symm⟩
  · intro hgt
    rw [exec_gftab_of_ge hgt, raise_eq, Status.record_eq, State.setStatus]

/-- Settles O42: each command is a look-up, and the two ROMs are inverse permutations without a fixed point. -/
theorem sboxCommandsPutTheEntryIntoRes : Obligations.SboxCommandsPutTheEntryIntoRes := by
  intro s a
  refine ⟨byteResult_eq (sbox a) s, exec_invsbox a s, ?_, sbox_ne_self a⟩
  rw [exec_invsbox, invSbox_sbox]

end Sys2Proof.Machine
end

section
/-! KEYEXP expands the key (R170 to R177): the parts of R174's recurrence as operations on words, what the loop writes at
each index, and the two outcomes of the command. -/

namespace Sys2Proof.Machine

/-! ## The parts of the recurrence -/

/-- `sub_word` takes each byte of a word through the S-box (R173). -/
theorem lane_subWord (t : Word) {k : Nat} (hk : k < 4) : lane (subWord t) k = sbox (lane t k) := by
  interval_cases k <;> simp [subWord]

/-- Byte k of a word from the least significant end is its lane 3 - k (R57). -/
theorem extractLsb'_eq_lane (w : Word) (k : Fin 4) : w.extractLsb' (8 * k.val) 8 = lane w (3 - k.val) := by
  rw [lane, show 24 - 8 * (3 - k.val) = 8 * k.val by omega]

/-- `rot_word` rotates left by one byte (R172). -/
theorem rotWord_eq_rotateLeft (t : Word) : rotWord t = t.rotateLeft 8 := by
  apply BitVec.eq_of_getLsbD_eq
  intro i hi
  rw [rotWord, BitVec.getLsbD_append, BitVec.getLsbD_rotateLeft]
  simp only [BitVec.getLsbD_extractLsb']
  split
  · simp [*]
  · simp [*, show i - 8 < 24 by omega]

/-- The round constant stands in the most significant byte (R170). -/
theorem rconWord_eq_append (j : Nat) : rconWord j = rcon j ++ 0#24 := by
  apply BitVec.eq_of_getLsbD_eq
  intro i hi
  rw [rconWord, zext32, BitVec.getLsbD_shiftLeft, BitVec.getLsbD_append]
  by_cases h : i < 24
  · simp [h]
  · simp [h, hi, show i - 24 < 32 by omega]

/-- The round constants double from 1 (R170). -/
theorem rcon_succ : ∀ j < 9, rcon (j + 1) = gfMul 2 (rcon j) := by decide

/-- `temp` of R174 for the three key lengths: only Nk = 8 has the second branch. -/
theorem scheduleTemp_eq {nk : Nat} (hnk : nk = 4 ∨ nk = 6 ∨ nk = 8) (i : Nat) (prev : Word) :
    scheduleTemp nk i prev =
      if i % nk = 0 then subWord (prev.rotateLeft 8) ^^^ (rcon (i / nk - 1) ++ 0#24)
      else if nk = 8 ∧ i % nk = 4 then subWord prev
      else prev := by
  have hbranch : nk > 6 ↔ nk = 8 := by omega
  simp only [scheduleTemp, rotWord_eq_rotateLeft, rconWord_eq_append, hbranch]

/-! ## The words of the schedule (R174, R176) -/

/-- Every word that the loop appends obeys the recurrence in the finished list. -/
theorem expandLoop_getD_of_ge {nk : Nat} (hpos : 0 < nk) (n : Nat) (w : List Word) (hnk : nk ≤ w.length) {i : Nat}
    (hge : w.length ≤ i) (hlt : i < w.length + n) :
    (expandLoop nk n w).getD i 0 =
      (expandLoop nk n w).getD (i - nk) 0 ^^^ scheduleTemp nk i ((expandLoop nk n w).getD (i - 1) 0) := by
  induction n generalizing w with
  | zero => omega
  | succ n ih =>
    rcases hge.eq_or_lt with rfl | hgt
    · have hkept {m : Nat} (hm : m < w.length) : (expandLoop nk (n + 1) w).getD m 0 = w.getD m 0 :=
        expandLoop_getD_lt nk (n + 1) w hm
      rw [hkept (m := w.length - nk) (by omega), hkept (m := w.length - 1) (by omega), ← expandStep_getD_length]
      exact expandLoop_getD_lt nk n (expandStep nk w) (by simp)
    · exact ih (expandStep nk w) (by rw [expandStep_length]; omega) (by rw [expandStep_length]; omega)
        (by rw [expandStep_length]; omega)

theorem keyWords_length {nk : Nat} (hnk : nk ≤ 8) (key : Vector Word 8) : (keyWords key nk).length = nk := by
  simp [keyWords, hnk]

theorem rkOfWords_getElem (w : List Word) (i : Fin 60) : (rkOfWords w)[i] = w.getD i.val 0 := by
  simp [rkOfWords]

/-- The schedule starts with the key words (R174). -/
theorem rkOfWords_expand_key {key : Vector Word 8} {nk nr : Nat} (hnk : nk ≤ 8) {i : Fin 60} {j : Fin 8}
    (hij : i.val = j.val) (hi : i.val < nk) : (rkOfWords (expand (keyWords key nk) nk nr))[i] = key[j] := by
  rw [rkOfWords_getElem, expand, expandLoop_getD_lt nk _ _ (by rwa [keyWords_length hnk])]
  simp [keyWords, hij, hij ▸ hi]

/-- The words above the key words obey the recurrence, up to the end of the schedule (R174). -/
theorem rkOfWords_expand_recurrence {key : Vector Word 8} {nk nr : Nat} (hpos : 0 < nk) (hnk : nk ≤ 8) {i p q : Fin 60}
    (hge : nk ≤ i.val) (hlt : i.val < 4 * (nr + 1)) (hp : p.val + 1 = i.val) (hq : q.val + nk = i.val) :
    (rkOfWords (expand (keyWords key nk) nk nr))[i] =
      (rkOfWords (expand (keyWords key nk) nk nr))[q] ^^^
        scheduleTemp nk i.val (rkOfWords (expand (keyWords key nk) nk nr))[p] := by
  have hlength : (keyWords key nk).length = nk := keyWords_length hnk key
  rw [rkOfWords_getElem, rkOfWords_getElem, rkOfWords_getElem, Nat.eq_sub_of_add_eq hp, Nat.eq_sub_of_add_eq hq]
  exact expandLoop_getD_of_ge hpos _ _ hlength.ge (by omega) (by omega)

/-! ## The command -/

/-- A key length's KEYEXP as one update of the state (R176). -/
theorem exec_keyexp_of_keyShape {klen : BitVec 2} {nk nr : Nat} (h : keyShape klen = some (nk, nr)) (s : State) :
    exec (.keyexp klen) s = .next { s with
      rk := rkOfWords (expand (keyWords s.key nk) nk nr)
      status := { s.status with kvalid := true, klen := klen, nr := BitVec.ofNat 4 nr } } := by
  rw [exec, execKeyexp_of_keyShape h, Status.validSchedule, State.setRk, State.setStatus]

/-- Settles O28: the words that the loop writes at each index, for each of the three key shapes. -/
theorem keyexpExpandsTheKey : Obligations.KeyexpExpandsTheKey := by
  refine ⟨fun w k => ?_, ⟨rfl, rcon_succ⟩, fun s klen nk nr hkey => ?_⟩
  · rw [extractLsb'_eq_lane, extractLsb'_eq_lane, lane_subWord w (by omega)]
  · have hshape : keyShape klen = some (nk, nr) := by
      rcases hkey with ⟨rfl, rfl, rfl⟩ | ⟨rfl, rfl, rfl⟩ | ⟨rfl, rfl, rfl⟩ <;> rfl
    have hnk : nk = 4 ∨ nk = 6 ∨ nk = 8 := by tauto
    have hnr : 10 ≤ nr := by omega
    refine ⟨rkOfWords (expand (keyWords s.key nk) nk nr), exec_keyexp_of_keyShape hshape s,
      fun i j => rkOfWords_expand_key (by omega), fun i p q hge hlt hp hq => ?_,
      fun i => rkOfWords_expand_above (by omega)⟩
    rw [← scheduleTemp_eq hnk]
    exact rkOfWords_expand_recurrence (by omega) (by omega) hge hlt hp hq

/-- Settles O29: the cleared schedule with the error recorded. -/
theorem keyexpOfReservedLengthClearsTheSchedule : Obligations.KeyexpOfReservedLengthClearsTheSchedule := by
  refine ⟨by decide, fun s => ⟨rkZero, fun j => by simp [rkZero], ?_⟩⟩
  have hraise : exec (.keyexp 3) s =
      raise .unsupportedKeyLength ((s.setRk rkZero).setStatus s.status.noSchedule) := rfl
  rw [hraise, raise_eq, Status.record_eq]
  rfl

end Sys2Proof.Machine
end

section
/-! The elementary round commands on the state matrix (R58, R190 to R196): each entry of what a block function gives, the
round key's XOR word by word, and the commands that record InvalidKeySchedule. -/

namespace Sys2Proof.Machine

/-! ## The state matrix of a block (R13, R58) -/

/-- Row r, column c of a block's state matrix is byte 4*c + r (R13). -/
def entry (b : Block) (r c : Fin 4) : Byte := b[4 * c.val + r.val]

theorem entry_eq {b : Block} {r c : Fin 4} {i : Nat} (hi : i < 16) (h : i = 4 * c.val + r.val) : b[i] = entry b r c := by
  subst h
  rfl

/-- A block is its state matrix. -/
theorem block_ext {a b : Block} (h : ∀ r c, entry a r c = entry b r c) : a = b := by
  apply Vector.ext
  intro i hi
  have hindex : i = 4 * (⟨i / 4, by omega⟩ : Fin 4).val + (⟨i % 4, by omega⟩ : Fin 4).val := (Nat.div_add_mod i 4).symm
  rw [entry_eq hi hindex, entry_eq hi hindex, h]

/-- The state matrix of DATA's block view is that of its register view (R57, R58). -/
theorem entry_blk (g : Group128) (r c : Fin 4) : entry (blk g) r c = cell g r c := by
  have hcolumn : (4 * c.val + r.val) / 4 = c.val := by omega
  have hrow : (4 * c.val + r.val) % 4 = r.val := by omega
  simp only [entry, blk_getElem, hcolumn, hrow, lane, cell, Fin.getElem_fin]

theorem cell_words (b : Block) (r c : Fin 4) : cell (words b) r c = entry b r c := by
  rw [← entry_blk, blk_words]

/-! ## What each elementary function does to an entry (R190 to R196) -/

theorem entry_subBytes (b : Block) (r c : Fin 4) : entry (subBytes b) r c = sbox (entry b r c) := subBytes_getElem b _

theorem entry_invSubBytes (b : Block) (r c : Fin 4) : entry (invSubBytes b) r c = invSbox (entry b r c) :=
  invSubBytes_getElem b _

theorem entry_shiftRows (b : Block) (r c : Fin 4) : entry (shiftRows b) r c = entry b r (c + r) := by
  rw [entry, shiftRows_getElem]
  exact entry_eq _ (by rw [Fin.val_add]; omega)

theorem entry_invShiftRows (b : Block) (r c : Fin 4) : entry (invShiftRows b) r c = entry b r (c - r) := by
  rw [entry, invShiftRows_getElem]
  exact entry_eq _ (by rw [Fin.val_sub]; omega)

theorem entry_onColumns (f : Byte → Byte → Byte → Byte → Vector Byte 4) (b : Block) (r c : Fin 4) :
    entry (onColumns f b) r c = (f (entry b 0 c) (entry b 1 c) (entry b 2 c) (entry b 3 c))[r] := by
  have hcolumn : (4 * c.val + r.val) / 4 = c.val := by omega
  have hrow : (4 * c.val + r.val) % 4 = r.val := by omega
  rw [entry, onColumns_getElem]
  simp only [hcolumn, hrow]
  rfl

/-- MixColumns multiplies a column by the circulant of (2, 3, 1, 1) (R194). -/
theorem mixColumn_getElem (v : Fin 4 → Byte) (r : Fin 4) : (mixColumn (v 0) (v 1) (v 2) (v 3))[r] =
    gfMul 2 (v r) ^^^ gfMul 3 (v (r + 1)) ^^^ v (r + 2) ^^^ v (r + 3) := by
  fin_cases r <;> simp [mixColumn] <;> ac_rfl

/-- InvMixColumns multiplies a column by the circulant of (14, 11, 13, 9) (R195). -/
theorem invMixColumn_getElem (v : Fin 4 → Byte) (r : Fin 4) : (invMixColumn (v 0) (v 1) (v 2) (v 3))[r] =
    gfMul 14 (v r) ^^^ gfMul 11 (v (r + 1)) ^^^ gfMul 13 (v (r + 2)) ^^^ gfMul 9 (v (r + 3)) := by
  fin_cases r <;> simp [invMixColumn] <;> ac_rfl

theorem entry_mixColumns (b : Block) (r c : Fin 4) : entry (mixColumns b) r c =
    gfMul 2 (entry b r c) ^^^ gfMul 3 (entry b (r + 1) c) ^^^ entry b (r + 2) c ^^^ entry b (r + 3) c :=
  (entry_onColumns mixColumn b r c).trans (mixColumn_getElem (entry b · c) r)

theorem entry_invMixColumns (b : Block) (r c : Fin 4) : entry (invMixColumns b) r c =
    gfMul 14 (entry b r c) ^^^ gfMul 11 (entry b (r + 1) c) ^^^ gfMul 13 (entry b (r + 2) c)
      ^^^ gfMul 9 (entry b (r + 3) c) :=
  (entry_onColumns invMixColumn b r c).trans (invMixColumn_getElem (entry b · c) r)

/-! ## The commands -/

/-- Settles O31: each entry is looked up on its own. -/
theorem subbSubstitutesEveryCell : Obligations.SubbSubstitutesEveryCell := by
  refine fun s => ⟨⟨words (subBytes (blk s.data)), rfl, fun r c => ?_⟩,
    ⟨words (invSubBytes (blk s.data)), rfl, fun r c => ?_⟩⟩
  · rw [cell_words, entry_subBytes, entry_blk]
  · rw [cell_words, entry_invSubBytes, entry_blk]

/-- Settles O32: columns are counted modulo 4. -/
theorem shrowRotatesEveryRow : Obligations.ShrowRotatesEveryRow := by
  refine fun s => ⟨⟨words (shiftRows (blk s.data)), rfl, fun r c => ?_⟩,
    ⟨words (invShiftRows (blk s.data)), rfl, fun r c => ?_⟩⟩
  · rw [cell_words, entry_shiftRows, entry_blk]
  · rw [cell_words, entry_invShiftRows, entry_blk]

/-- Settles O33: row r of each circulant is row 0 rotated right by r. -/
theorem mixcolMultipliesEveryColumn : Obligations.MixcolMultipliesEveryColumn := by
  refine fun s => ⟨⟨words (mixColumns (blk s.data)), rfl, fun r c => ?_⟩,
    ⟨words (invMixColumns (blk s.data)), rfl, fun r c => ?_⟩⟩
  · rw [cell_words, entry_mixColumns, entry_blk, entry_blk, entry_blk, entry_blk]
  · rw [cell_words, entry_invMixColumns, entry_blk, entry_blk, entry_blk, entry_blk]

/-! ## ADDRK and the schedule check (R196, R206, R253) -/

theorem lane_xor (v w : Word) (k : Nat) : lane (v ^^^ w) k = lane v k ^^^ lane w k := BitVec.extractLsb'_xor

theorem xorGroup_getElem (g h : Group128) {j : Nat} (hj : j < 4) : (xorGroup g h)[j] = g[j] ^^^ h[j] := by
  simp [xorGroup]

/-- XOR of blocks is XOR of their words (R57). -/
theorem words_xorBlock (b k : Block) : words (xorBlock b k) = xorGroup (words b) (words k) := by
  apply blk_injective
  apply Vector.ext
  intro i hi
  rw [blk_words, xorBlock_getElem _ _ hi, blk_getElem _ hi, xorGroup_getElem _ _ (by omega), lane_xor,
    ← blk_getElem _ hi, ← blk_getElem _ hi, blk_words, blk_words]

/-- Word j of round key r is word 4*r + j of the store (R60). -/
theorem words_roundKey_getElem (rk : Vector Word 60) (r : Nat) (j : Fin 4) :
    (words (roundKey rk r))[j] = rkWord rk (4 * r + j.val) := by
  rw [roundKey, words_blk]
  fin_cases j <;> rfl

/-- ADDRK with a schedule and a round key of it (R206). -/
theorem exec_addrk_of_le {s : State} {r : BitVec 4} (hkvalid : s.status.kvalid = true) (hr : r.toNat ≤ s.status.nr.toNat) :
    exec (.addrk r) s = transformData (fun b => addRoundKey b (roundKey s.rk r.toNat)) s := by
  rw [exec, execAddrk, withSchedule_of_kvalid hkvalid, if_pos hr]

/-- ADDRK with a schedule and an index above NR (R206). -/
theorem exec_addrk_of_gt {s : State} {r : BitVec 4} (hkvalid : s.status.kvalid = true) (hr : s.status.nr.toNat < r.toNat) :
    exec (.addrk r) s = raise .invalidKeySchedule s := by
  rw [exec, execAddrk, withSchedule_of_kvalid hkvalid, if_neg hr.not_ge]

/-- Settles O34: the XOR of DATA and the round key, word by word. -/
theorem addrkXorsTheRoundKey : Obligations.AddrkXorsTheRoundKey := by
  intro s r hkvalid _ hr
  refine ⟨words (addRoundKey (blk s.data) (roundKey s.rk r.toNat)), exec_addrk_of_le hkvalid hr, fun j k hk => ?_⟩
  have hword : rkWord s.rk (4 * r.toNat + j.val) = s.rk[k] := by
    rw [← hk, rkWord, dif_pos k.isLt]
    rfl
  rw [← hword, ← words_roundKey_getElem, addRoundKey, words_xorBlock, words_blk]
  exact xorGroup_getElem _ _ j.isLt

/-- Raising an error in one equation: only ERR and ERRCODE change (R252). -/
theorem raise_eq_update (e : ErrCode) (s : State) : raise e s = .next { s with status := { s.status with
    err := true
    errcode := if s.status.err = true then s.status.errcode else e } } := by
  rw [raise_eq, Status.record_eq, State.setStatus]

/-- Settles O22: the schedule check comes before anything else, and ADDRK's own check after it. -/
theorem commandsWithoutTheirRoundKeyOnlyRecordIt : Obligations.CommandsWithoutTheirRoundKeyOnlyRecordIt := by
  refine fun s => ⟨fun hkvalid r i hi => ?_, fun hkvalid r hr => ?_⟩
  · have hraise : exec i s = raise .invalidKeySchedule s := by
      simp only [List.mem_cons, List.not_mem_nil, or_false] at hi
      rcases hi with rfl | rfl | rfl | rfl | rfl | rfl | rfl | rfl | rfl <;> exact withSchedule_of_not_kvalid hkvalid _
    rw [hraise, raise_eq_update]
  · rw [exec_addrk_of_gt hkvalid hr, raise_eq_update]

end Sys2Proof.Machine
end

section
/-! The inverse functions undo theirs (R199), entry by entry; MixColumns over the residues of bytes. -/

namespace Sys2Proof.Machine

/-! ## The elementary functions -/

@[simp] theorem invSubBytes_subBytes (b : Block) : invSubBytes (subBytes b) = b :=
  block_ext fun r c => by rw [entry_invSubBytes, entry_subBytes, invSbox_sbox]

@[simp] theorem invShiftRows_shiftRows (b : Block) : invShiftRows (shiftRows b) = b :=
  block_ext fun r c => by rw [entry_invShiftRows, entry_shiftRows, sub_add_cancel]

@[simp] theorem addRoundKey_addRoundKey (b k : Block) : addRoundKey (addRoundKey b k) k = b := xorBlock_xorBlock b k

/-- In characteristic 2 the circulants of (x, x+1, 1, 1) and (x^3+x^2+x, x^3+x+1, x^3+x^2+1, x^3+1) are inverse. -/
theorem invCirculant_circulant {R : Type*} [CommRing R] (htwo : (2 : R) = 0) (x a b c d : R) :
    (x ^ 3 + x ^ 2 + x) * (x * a + (x + 1) * b + c + d) + (x ^ 3 + x + 1) * (x * b + (x + 1) * c + d + a)
      + (x ^ 3 + x ^ 2 + 1) * (x * c + (x + 1) * d + a + b) + (x ^ 3 + 1) * (x * d + (x + 1) * a + b + c) = a := by
  linear_combination ((x ^ 4 + 2 * x ^ 3 + x ^ 2 + x + 1) * a + (x ^ 4 + 2 * x ^ 3 + 2 * x ^ 2 + x + 1) * b
    + (x ^ 4 + 2 * x ^ 3 + x ^ 2 + 2 * x + 1) * c + (x ^ 4 + 2 * x ^ 3 + x ^ 2 + 2 * x + 1) * d) * htwo

theorem adjoinRoot_two_eq_zero : (2 : AdjoinRoot reducingPoly) = 0 :=
  calc (2 : AdjoinRoot reducingPoly) = residue 1#8 + residue 1#8 := by rw [residue_one, one_add_one_eq_two]
    _ = 0 := by rw [← residue_xor, BitVec.xor_self, residue_zero]

theorem residue_three : residue 3 = residue 2 + 1 := by
  rw [show (3 : Byte) = 2 ^^^ 1#8 by decide, residue_xor, residue_one]

theorem residue_nine : residue 9 = residue 2 ^ 3 + 1 := by
  rw [show (9 : Byte) = gfMul 2 (gfMul 2 2) ^^^ 1#8 by decide, residue_xor, residue_gfMul, residue_gfMul, residue_one]
  ring

theorem residue_eleven : residue 11 = residue 2 ^ 3 + residue 2 + 1 := by
  rw [show (11 : Byte) = 9 ^^^ 2 by decide, residue_xor, residue_nine]
  ring

theorem residue_thirteen : residue 13 = residue 2 ^ 3 + residue 2 ^ 2 + 1 := by
  rw [show (13 : Byte) = 9 ^^^ gfMul 2 2 by decide, residue_xor, residue_nine, residue_gfMul]
  ring

theorem residue_fourteen : residue 14 = residue 2 ^ 3 + residue 2 ^ 2 + residue 2 := by
  rw [show (14 : Byte) = 13 ^^^ 3 by decide, residue_xor, residue_thirteen, residue_three]
  linear_combination adjoinRoot_two_eq_zero

@[simp] theorem invMixColumns_mixColumns (b : Block) : invMixColumns (mixColumns b) = b := by
  refine block_ext fun r c => residue_injective ?_
  have hrows : r + 1 + 1 = r + 2 ∧ r + 1 + 2 = r + 3 ∧ r + 1 + 3 = r ∧ r + 2 + 1 = r + 3 ∧ r + 2 + 2 = r ∧
      r + 2 + 3 = r + 1 ∧ r + 3 + 1 = r ∧ r + 3 + 2 = r + 1 ∧ r + 3 + 3 = r + 2 := by
    revert r
    decide
  simp only [entry_invMixColumns, entry_mixColumns, hrows, residue_xor, residue_gfMul, residue_three, residue_nine,
    residue_eleven, residue_thirteen, residue_fourteen]
  exact invCirculant_circulant adjoinRoot_two_eq_zero _ _ _ _ _

/-! ## The full transforms -/

/-- Before AddRoundKey, the middle rounds of the inverse cipher undo those of the cipher, the last round first (R199). -/
theorem invCipherRounds_cipherRounds (rk : Vector Word 60) (b : Block) (n : Nat) :
    invCipherRounds rk n (shiftRows (subBytes (cipherRounds rk b n))) =
      shiftRows (subBytes (addRoundKey b (roundKey rk 0))) := by
  induction n with
  | zero => rfl
  | succ n ih =>
    rw [invCipherRounds, invCipherRound, invShiftRows_shiftRows, invSubBytes_subBytes, cipherRounds, cipherRound,
      addRoundKey_addRoundKey, invMixColumns_mixColumns, ih]

theorem invCipher_cipher (rk : Vector Word 60) (nr : Nat) (b : Block) : invCipher rk nr (cipher rk nr b) = b := by
  rw [invCipher, cipher, cipherFinal, addRoundKey_addRoundKey, invCipherRounds_cipherRounds, invCipherFinal,
    invShiftRows_shiftRows, invSubBytes_subBytes, addRoundKey_addRoundKey]

/-- Settles O47: the functions entry by entry, the rounds of the inverse cipher from the last one back. -/
theorem inverseFunctionsUndoTheirFunctions : Obligations.InverseFunctionsUndoTheirFunctions :=
  ⟨invSubBytes_subBytes, invShiftRows_shiftRows, invMixColumns_mixColumns, addRoundKey_addRoundKey, invCipher_cipher⟩

end Sys2Proof.Machine
end

section
/-! The block commands, and the elementary commands that they are made of (R197, R198, R207, R208). -/

namespace Sys2Proof.Machine

/-! ## ENCBLK, DECBLK and the ECB commands -/

section
variable {s : State} (hkvalid : s.status.kvalid = true)
include hkvalid

theorem exec_encblk_of_kvalid :
    exec .encblk s = .next (s.setData (words (cipher s.rk s.status.nr.toNat (blk s.data)))) :=
  withSchedule_of_kvalid hkvalid _

theorem exec_decblk_of_kvalid :
    exec .decblk s = .next (s.setData (words (invCipher s.rk s.status.nr.toNat (blk s.data)))) :=
  withSchedule_of_kvalid hkvalid _

end

/-- Settles O35: MENC.ECB and MDEC.ECB are ENCBLK and DECBLK (R223, R224). -/
theorem blockAndEcbCommandsTransformData : Obligations.BlockAndEcbCommandsTransformData :=
  fun _ hkvalid => ⟨exec_encblk_of_kvalid hkvalid, exec_encblk_of_kvalid hkvalid, exec_decblk_of_kvalid hkvalid,
    exec_decblk_of_kvalid hkvalid⟩

/-! ## Commands in a row that transform DATA -/

theorem runCommands_append {is js : List Instr} {s t : State} (h : runCommands is s = .next t) :
    runCommands (is ++ js) s = runCommands js t := by
  induction is generalizing s with
  | nil =>
    obtain rfl : s = t := Host.Outcome.next.inj h
    rfl
  | cons i is ih =>
    rw [List.cons_append, runCommands]
    rw [runCommands] at h
    cases hexec : exec i s with
    | next u =>
      rw [hexec] at h
      exact ih h
    | fault f => simp [hexec] at h
    | refused r => simp [hexec] at h

/-- The commands take DATA from block `a` to block `b` and leave the rest of `s` as it is. -/
def RunsTo (s : State) (is : List Instr) (a b : Block) : Prop :=
  runCommands is (s.setData (words a)) = .next (s.setData (words b))

section
variable {s : State} {is js : List Instr} {a b c : Block}

theorem RunsTo.nil : RunsTo s [] a a := rfl

theorem RunsTo.append (h : RunsTo s is a b) (h' : RunsTo s js b c) : RunsTo s (is ++ js) a c :=
  (runCommands_append h).trans h'

theorem RunsTo.cons {i : Instr} (h : RunsTo s [i] a b) (h' : RunsTo s js b c) : RunsTo s (i :: js) a c :=
  h.append h'

theorem RunsTo.runCommands_eq (h : RunsTo s is (blk s.data) b) : runCommands is s = .next (s.setData (words b)) := by
  rwa [RunsTo, words_blk] at h

/-- A command that transforms DATA by `f` (R200 to R206). -/
theorem RunsTo.of_transformData {i : Instr} {f : Block → Block}
    (h : exec i (s.setData (words a)) = transformData f (s.setData (words a))) : RunsTo s [i] a (f a) := by
  rw [RunsTo, runCommands, h, transformData, State.setData_data, blk_words]
  rfl

theorem runsTo_subb : RunsTo s [.subb] a (subBytes a) := .of_transformData rfl
theorem runsTo_invsubb : RunsTo s [.invsubb] a (invSubBytes a) := .of_transformData rfl
theorem runsTo_shrow : RunsTo s [.shrow] a (shiftRows a) := .of_transformData rfl
theorem runsTo_invshrow : RunsTo s [.invshrow] a (invShiftRows a) := .of_transformData rfl
theorem runsTo_mixcol : RunsTo s [.mixcol] a (mixColumns a) := .of_transformData rfl
theorem runsTo_invmixcol : RunsTo s [.invmixcol] a (invMixColumns a) := .of_transformData rfl

/-! ## The elementary commands of the cipher and of the inverse cipher (R197, R198) -/

variable (hkvalid : s.status.kvalid = true)
include hkvalid

/-- ADDRK with a round number of the schedule, which its field of four bits holds. -/
theorem runsTo_addrk {r : Nat} (hr : r ≤ s.status.nr.toNat) :
    RunsTo s [.addrk (BitVec.ofNat 4 r)] a (addRoundKey a (roundKey s.rk r)) := by
  have hround : (BitVec.ofNat 4 r).toNat = r := by
    rw [BitVec.toNat_ofNat, Nat.mod_eq_of_lt (hr.trans_lt s.status.nr.isLt)]
  have hexec := exec_addrk_of_le (s := s.setData (words a)) hkvalid (hround.trans_le hr)
  rw [hround] at hexec
  exact .of_transformData (f := (addRoundKey · (roundKey s.rk r))) hexec

theorem runsTo_addrk_zero : RunsTo s [.addrk 0] a (addRoundKey a (roundKey s.rk 0)) :=
  runsTo_addrk hkvalid (Nat.zero_le _)

theorem runsTo_cipherRounds {n : Nat} (hn : n ≤ s.status.nr.toNat) :
    RunsTo s
      ([Instr.addrk 0] ++ (List.range' 1 n).flatMap fun r => [Instr.subb, .shrow, .mixcol, .addrk (BitVec.ofNat 4 r)])
      a (cipherRounds s.rk a n) := by
  induction n with
  | zero => exact runsTo_addrk_zero hkvalid
  | succ n ih =>
    rw [List.range'_1_concat, List.flatMap_append, ← List.append_assoc, Nat.add_comm 1 n]
    exact (ih (Nat.le_of_succ_le hn)).append
      (runsTo_subb.cons (runsTo_shrow.cons (runsTo_mixcol.cons (runsTo_addrk hkvalid hn))))

theorem runsTo_invCipherRounds {n : Nat} (hn : n ≤ s.status.nr.toNat) :
    RunsTo s
      ((List.range' 1 n).reverse.flatMap fun r => [Instr.invshrow, .invsubb, .addrk (BitVec.ofNat 4 r), .invmixcol])
      a (invCipherRounds s.rk n a) := by
  induction n generalizing a with
  | zero => exact .nil
  | succ n ih =>
    rw [List.range'_1_concat, List.reverse_concat, List.flatMap_cons, Nat.add_comm 1 n]
    exact (runsTo_invshrow.cons (runsTo_invsubb.cons ((runsTo_addrk hkvalid hn).cons runsTo_invmixcol))).append
      (ih (Nat.le_of_succ_le hn))

theorem runsTo_cipherCommands : RunsTo s (cipherCommands s.status.nr.toNat) a (cipher s.rk s.status.nr.toNat a) :=
  (runsTo_cipherRounds hkvalid (Nat.sub_le _ 1)).append
    (runsTo_subb.cons (runsTo_shrow.cons (runsTo_addrk hkvalid le_rfl)))

theorem runsTo_invCipherCommands :
    RunsTo s (invCipherCommands s.status.nr.toNat) a (invCipher s.rk s.status.nr.toNat a) :=
  ((runsTo_addrk hkvalid le_rfl).append (runsTo_invCipherRounds hkvalid (Nat.sub_le _ 1))).append
    (runsTo_invshrow.cons (runsTo_invsubb.cons (runsTo_addrk_zero hkvalid)))

end

/-- Settles O36: both sides put the cipher, or the inverse cipher, of DATA into DATA. -/
theorem blockCommandsAreTheirElementaryCommands : Obligations.BlockCommandsAreTheirElementaryCommands :=
  fun _ hkvalid =>
    ⟨⟨_, (runsTo_cipherCommands hkvalid).runCommands_eq, exec_encblk_of_kvalid hkvalid⟩,
      ⟨_, (runsTo_invCipherCommands hkvalid).runCommands_eq, exec_decblk_of_kvalid hkvalid⟩⟩

end Sys2Proof.Machine
end

section
/-! The sequence commands and the chaining-mode commands (R220 to R229): what each writes, on register groups. -/

namespace Sys2Proof.Machine

/-! ## SEQINIT, SEQEND and the reserved mode (R220, R221, R229) -/

/-- Settles O26: SEQINIT's two register writes as one update. -/
theorem seqinitCopiesIvToChain : Obligations.SeqinitCopiesIvToChain := fun _ => rfl

/-- Settles O27: the group that SEQEND writes is the zero group. -/
theorem seqendZeroesChainAndIv : Obligations.SeqendZeroesChainAndIv := fun _ => ⟨zeroGroup, by decide, rfl⟩

/-- Settles O39: both words of MODE = 3 raise UnsupportedMode before any check. -/
theorem reservedModeOnlyRecordsUnsupportedMode : Obligations.ReservedModeOnlyRecordsUnsupportedMode := by
  refine ⟨by decide, by decide, fun s i hi => ?_⟩
  have hraise : exec i s = raise .unsupportedMode s := by
    simp only [List.mem_cons, List.not_mem_nil, or_false] at hi
    rcases hi with rfl | rfl <;> rfl
  rw [hraise, raise_eq_update]

/-! ## The CBC and CFB commands (R222, R225 to R228) -/

theorem blk_xorGroup (g h : Group128) : blk (xorGroup g h) = xorBlock (blk g) (blk h) := by
  rw [← blk_words (xorBlock _ _), words_xorBlock, words_blk, words_blk]

/-- DATA and CHAIN written by a command that leaves the sequence open. -/
def State.chained (s : State) (out next : Group128) : State :=
  { s with data := out, chain := next, status := { s.status with seq := true } }

/-- What MENC.CBC makes of the chaining value `v` and the block `b` (R225). -/
def State.cbcEncrypted (s : State) (v b : Group128) : Group128 := s.encryptGroup (xorGroup b v)

/-- What MDEC.CBC makes of the chaining value `v` and the ciphertext `b` (R226). -/
def State.cbcDecrypted (s : State) (v b : Group128) : Group128 := xorGroup (s.decryptGroup b) v

/-- What both CFB commands make of the chaining value `v` and the block `b` (R227, R228). -/
def State.cfbMasked (s : State) (v b : Group128) : Group128 := xorGroup b (s.encryptGroup v)

/-- The implicit start puts the chaining value into CHAIN (R222). -/
theorem State.openIfNeeded_chain (s : State) : s.openIfNeeded.chain = s.chainingValue := by
  cases h : s.status.seq <;> simp [State.openIfNeeded, State.chainingValue, h]

theorem State.openIfNeeded_encryptBlock (s : State) : s.openIfNeeded.encryptBlock = s.encryptBlock := by
  funext b
  rw [State.encryptBlock, State.encryptBlock, State.openIfNeeded_rk, State.openIfNeeded_nr]

theorem State.openIfNeeded_decryptBlock (s : State) : s.openIfNeeded.decryptBlock = s.decryptBlock := by
  funext b
  rw [State.decryptBlock, State.decryptBlock, State.openIfNeeded_rk, State.openIfNeeded_nr]

section
variable {s : State} (hkvalid : s.status.kvalid = true)
include hkvalid

/-- The end of a CBC or CFB command with a schedule: the implicit start leaves nothing but SEQ = 1. -/
theorem withSchedule_chainResult (out next : Block) :
    withSchedule s (chainResult out next s.openIfNeeded) = .next (s.chained (words out) (words next)) := by
  rw [withSchedule_of_kvalid hkvalid, chainResult, State.openIfNeeded_setChain]
  rfl

theorem exec_mencCbc_of_kvalid : exec .mencCbc s =
    .next (s.chained (s.cbcEncrypted s.chainingValue s.data) (s.cbcEncrypted s.chainingValue s.data)) := by
  rw [exec, execMencCbc, cbcEncrypt, withSchedule_chainResult hkvalid, State.openIfNeeded_encryptBlock,
    State.openIfNeeded_data, State.openIfNeeded_chain, ← blk_xorGroup]
  rfl

theorem exec_mdecCbc_of_kvalid :
    exec .mdecCbc s = .next (s.chained (s.cbcDecrypted s.chainingValue s.data) s.data) := by
  rw [exec, execMdecCbc, cbcDecrypt, withSchedule_chainResult hkvalid, State.openIfNeeded_decryptBlock,
    State.openIfNeeded_data, State.openIfNeeded_chain, words_xorBlock, words_blk, words_blk]
  rfl

theorem exec_mencCfb_of_kvalid : exec .mencCfb s =
    .next (s.chained (s.cfbMasked s.chainingValue s.data) (s.cfbMasked s.chainingValue s.data)) := by
  rw [exec, execMencCfb, cfbEncrypt, withSchedule_chainResult hkvalid, State.openIfNeeded_encryptBlock,
    State.openIfNeeded_data, State.openIfNeeded_chain, words_xorBlock, words_blk]
  rfl

theorem exec_mdecCfb_of_kvalid :
    exec .mdecCfb s = .next (s.chained (s.cfbMasked s.chainingValue s.data) s.data) := by
  rw [exec, execMdecCfb, cfbDecrypt, withSchedule_chainResult hkvalid, State.openIfNeeded_encryptBlock,
    State.openIfNeeded_data, State.openIfNeeded_chain, words_xorBlock, words_blk]
  rfl

end

/-- Settles O37: the CBC commands on register groups. -/
theorem cbcCommandsChainTheCiphertext : Obligations.CbcCommandsChainTheCiphertext :=
  fun _ hkvalid => ⟨⟨_, rfl, exec_mencCbc_of_kvalid hkvalid⟩, exec_mdecCbc_of_kvalid hkvalid⟩

/-- Settles O38: the CFB commands on register groups, both by the forward cipher. -/
theorem cfbCommandsChainTheCiphertext : Obligations.CfbCommandsChainTheCiphertext :=
  fun _ hkvalid => ⟨⟨_, rfl, exec_mencCfb_of_kvalid hkvalid⟩, exec_mdecCfb_of_kvalid hkvalid⟩

end Sys2Proof.Machine
end

section
/-! Lists of blocks in a chain: each block is transformed together with the chaining value before it. -/

namespace Sys2Proof.Machine

section
variable {α : Type*} (f g : α → α → α) (v x z : α)

/-- The outputs when every output is the next chaining value, from the starting value `v` on. -/
def chainEncrypt (input : List α) : List α := List.zipWith f (List.scanl f v input) input

/-- The outputs when every input is the next chaining value, from the starting value `v` on. -/
def chainDecrypt (input : List α) : List α := List.zipWith g (v :: input) input

@[simp] theorem chainEncrypt_cons (b : α) (bs : List α) :
    chainEncrypt f v (b :: bs) = f v b :: chainEncrypt f (f v b) bs := by
  rw [chainEncrypt, List.scanl_cons, List.zipWith_cons_cons, ← chainEncrypt]

@[simp] theorem chainDecrypt_cons (b : α) (bs : List α) :
    chainDecrypt g v (b :: bs) = g v b :: chainDecrypt g b bs := rfl

@[simp] theorem chainEncrypt_length (input : List α) : (chainEncrypt f v input).length = input.length := by
  rw [chainEncrypt, List.length_zipWith, List.length_scanl, Nat.min_eq_right (Nat.le_succ _)]

@[simp] theorem chainDecrypt_length (input : List α) : (chainDecrypt g v input).length = input.length := by
  rw [chainDecrypt, List.length_zipWith, List.length_cons, Nat.min_eq_right (Nat.le_succ _)]

/-- The chaining values of an encryption are the starting value and the outputs. -/
theorem scanl_eq_cons_chainEncrypt (input : List α) : List.scanl f v input = v :: chainEncrypt f v input := by
  induction input generalizing v with
  | nil => rfl
  | cons b bs ih => rw [List.scanl_cons, ih, chainEncrypt_cons]

/-- The chaining values of a decryption are the starting value and the inputs. -/
theorem scanl_eq_cons_input (input : List α) : List.scanl (fun _ b => b) v input = v :: input := by
  induction input generalizing v with
  | nil => rfl
  | cons b bs ih => rw [List.scanl_cons, ih]

/-- Decryption follows the same chaining values as encryption and undoes it block by block. -/
theorem chainDecrypt_chainEncrypt (h : ∀ v b, g v (f v b) = b) (input : List α) :
    chainDecrypt g v (chainEncrypt f v input) = input := by
  induction input generalizing v with
  | nil => rfl
  | cons b bs ih => rw [chainEncrypt_cons, chainDecrypt_cons, h, ih]

/-! ## Single blocks -/

variable {input : List α} {n : Nat}

theorem zipWith_getD {as bs : List α} (ha : n < as.length) (hb : n < bs.length) :
    (List.zipWith f as bs).getD n z = f (as.getD n z) (bs.getD n z) := by
  have hn : n < (List.zipWith f as bs).length := by rw [List.length_zipWith]; exact lt_min ha hb
  rw [List.getD_eq_getElem _ _ hn, List.getD_eq_getElem _ _ ha, List.getD_eq_getElem _ _ hb, List.getElem_zipWith]

theorem chainEncrypt_getD (hn : n < input.length) : (chainEncrypt f v input).getD n z =
    f ((v :: chainEncrypt f v input).getD n z) (input.getD n z) := by
  rw [← scanl_eq_cons_chainEncrypt]
  exact zipWith_getD f z (by rw [List.length_scanl]; omega) hn

theorem chainDecrypt_getD (hn : n < input.length) : (chainDecrypt g v input).getD n z =
    g ((v :: input).getD n z) (input.getD n z) :=
  zipWith_getD g z (by rw [List.length_cons]; omega) hn

/-! ## A changed ciphertext block -/

theorem set_getD_of_ne {m : Nat} (hm : m ≠ n) : (input.set n x).getD m z = input.getD m z := by
  rw [List.getD_eq_getElem?_getD, List.getElem?_set_ne hm.symm, ← List.getD_eq_getElem?_getD]

theorem cons_set_getD_of_ne {m : Nat} (hm : m ≠ n + 1) : (v :: input.set n x).getD m z = (v :: input).getD m z := by
  rw [← List.set_cons_succ, set_getD_of_ne x z hm]

theorem set_getD_self (hn : n < input.length) : (input.set n x).getD n z = x := by
  rw [List.getD_eq_getElem?_getD, List.getElem?_set_self hn, Option.getD_some]

/-- Its own output comes from the changed block and the chaining value before it. -/
theorem chainDecrypt_set_getD_self (hn : n < input.length) :
    (chainDecrypt g v (input.set n x)).getD n z = g ((v :: input).getD n z) x := by
  rw [chainDecrypt_getD g v z (by rwa [List.length_set]), cons_set_getD_of_ne v x z (Nat.succ_ne_self n).symm,
    set_getD_self x z hn]

/-- The next output has the changed block as its chaining value. -/
theorem chainDecrypt_set_getD_succ (hn : n + 1 < input.length) :
    (chainDecrypt g v (input.set n x)).getD (n + 1) z = g x (input.getD (n + 1) z) := by
  rw [chainDecrypt_getD g v z (by rwa [List.length_set]), List.getD_cons_succ, set_getD_self x z (Nat.lt_of_succ_lt hn),
    set_getD_of_ne x z (Nat.succ_ne_self n)]

/-- No other output depends on the changed block. -/
theorem chainDecrypt_set_getD_of_ne {m : Nat} (hself : m ≠ n) (hsucc : m ≠ n + 1) :
    (chainDecrypt g v (input.set n x)).getD m z = (chainDecrypt g v input).getD m z := by
  rcases Nat.lt_or_ge m input.length with hm | hm
  · rw [chainDecrypt_getD g v z (by rwa [List.length_set]), chainDecrypt_getD g v z hm,
      cons_set_getD_of_ne v x z hsucc, set_getD_of_ne x z hself]
  · rw [List.getD_eq_default _ _ (by simpa using hm), List.getD_eq_default _ _ (by simpa using hm)]

end

end Sys2Proof.Machine
end

section
/-! Sequences (R230, R231): what `runBlocks` puts out for each mode, and that decryption gives an encrypted input back. -/

namespace Sys2Proof.Machine

/-! ## Groups -/

theorem xorGroup_comm (g h : Group128) : xorGroup g h = xorGroup h g := by
  apply Vector.ext
  intro j hj
  rw [xorGroup_getElem _ _ hj, xorGroup_getElem _ _ hj, BitVec.xor_comm]

theorem xorGroup_assoc (g h k : Group128) : xorGroup (xorGroup g h) k = xorGroup g (xorGroup h k) := by
  apply Vector.ext
  intro j hj
  rw [xorGroup_getElem _ _ hj, xorGroup_getElem _ _ hj, xorGroup_getElem _ _ hj, xorGroup_getElem _ _ hj,
    BitVec.xor_assoc]

/-- XOR with the same group twice. -/
@[simp] theorem xorGroup_xorGroup (g h : Group128) : xorGroup (xorGroup g h) h = g := by
  apply Vector.ext
  intro j hj
  rw [xorGroup_getElem _ _ hj, xorGroup_getElem _ _ hj, BitVec.xor_assoc, BitVec.xor_self, BitVec.xor_zero]

section
variable (s : State) (v b : Group128)

@[simp] theorem State.decryptGroup_encryptGroup : s.decryptGroup (s.encryptGroup b) = b := by
  rw [State.decryptGroup, State.encryptGroup, blk_words, State.decryptBlock, State.encryptBlock, invCipher_cipher,
    words_blk]

theorem State.cbcDecrypted_cbcEncrypted : s.cbcDecrypted v (s.cbcEncrypted v b) = b := by
  rw [State.cbcDecrypted, State.cbcEncrypted, State.decryptGroup_encryptGroup, xorGroup_xorGroup]

theorem State.cfbMasked_cfbMasked : s.cfbMasked v (s.cfbMasked v b) = b := xorGroup_xorGroup b _

end

/-! ## Runs over a list of blocks -/

theorem runBlocks_cons {i : Instr} {b : Group128} {bs out : List Group128} {s t u : State}
    (hexec : exec i (s.setData b) = .next t) (hrun : runBlocks i bs t = some (out, u)) :
    runBlocks i (b :: bs) s = some (t.data :: out, u) := by
  rw [runBlocks, ← State.setData, hexec]
  simp only [hrun, Option.map_some]

/-- `t` has a schedule, and it is the one in `s`. -/
structure State.SharesSchedule (s t : State) : Prop where
  kvalid : t.status.kvalid = true
  rk : t.rk = s.rk
  nr : t.status.nr = s.status.nr

section
variable {s t : State} {i : Instr}

theorem State.SharesSchedule.encryptGroup_eq (ht : s.SharesSchedule t) : t.encryptGroup = s.encryptGroup := by
  funext g
  rw [State.encryptGroup, State.encryptGroup, State.encryptBlock, State.encryptBlock, ht.rk, ht.nr]

theorem State.SharesSchedule.decryptGroup_eq (ht : s.SharesSchedule t) : t.decryptGroup = s.decryptGroup := by
  funext g
  rw [State.decryptGroup, State.decryptGroup, State.decryptBlock, State.decryptBlock, ht.rk, ht.nr]

/-! ## ECB: each block by itself (R223, R224) -/

/-- With the schedule of `s`, the command replaces DATA by `f` of it and does nothing else. -/
def TransformsBy (s : State) (i : Instr) (f : Group128 → Group128) : Prop :=
  ∀ t, s.SharesSchedule t → exec i t = .next (t.setData (f t.data))

theorem transformsBy_mencEcb (s : State) : TransformsBy s .mencEcb s.encryptGroup := by
  intro t ht
  rw [← ht.encryptGroup_eq]
  exact exec_encblk_of_kvalid ht.kvalid

theorem transformsBy_mdecEcb (s : State) : TransformsBy s .mdecEcb s.decryptGroup := by
  intro t ht
  rw [← ht.decryptGroup_eq]
  exact exec_decblk_of_kvalid ht.kvalid

theorem TransformsBy.exists_runBlocks {f : Group128 → Group128} (h : TransformsBy s i f) (ht : s.SharesSchedule t)
    (input : List Group128) :
    ∃ u, runBlocks i input t = some (input.map f, u) ∧ u.chain = t.chain ∧ u.status = t.status := by
  induction input generalizing t with
  | nil => exact ⟨t, rfl, rfl, rfl⟩
  | cons b bs ih =>
    have hexec := h (t.setData b) ⟨ht.kvalid, ht.rk, ht.nr⟩
    obtain ⟨u, hrun, hchain, hstatus⟩ := ih (t := (t.setData b).setData (f b)) ⟨ht.kvalid, ht.rk, ht.nr⟩
    exact ⟨u, runBlocks_cons hexec hrun, hchain, hstatus⟩

/-! ## CBC and CFB: each block with the chaining value before it (R225 to R228) -/

/-- With the schedule of `s`, the command puts `out` of the chaining value and DATA into DATA and `next` of them into CHAIN,
and leaves the sequence open. -/
def ChainsBy (s : State) (i : Instr) (out next : Group128 → Group128 → Group128) : Prop :=
  ∀ t, s.SharesSchedule t →
    exec i t = .next (t.chained (out t.chainingValue t.data) (next t.chainingValue t.data))

theorem chainsBy_mencCbc (s : State) : ChainsBy s .mencCbc s.cbcEncrypted s.cbcEncrypted := by
  intro t ht
  rw [exec_mencCbc_of_kvalid ht.kvalid, State.cbcEncrypted, ht.encryptGroup_eq, State.cbcEncrypted]

theorem chainsBy_mdecCbc (s : State) : ChainsBy s .mdecCbc s.cbcDecrypted fun _ b => b := by
  intro t ht
  rw [exec_mdecCbc_of_kvalid ht.kvalid, State.cbcDecrypted, ht.decryptGroup_eq, State.cbcDecrypted]

theorem chainsBy_mencCfb (s : State) : ChainsBy s .mencCfb s.cfbMasked s.cfbMasked := by
  intro t ht
  rw [exec_mencCfb_of_kvalid ht.kvalid, State.cfbMasked, ht.encryptGroup_eq, State.cfbMasked]

theorem chainsBy_mdecCfb (s : State) : ChainsBy s .mdecCfb s.cfbMasked fun _ b => b := by
  intro t ht
  rw [exec_mdecCfb_of_kvalid ht.kvalid, State.cfbMasked, ht.encryptGroup_eq, State.cfbMasked]

/-- The chaining values of a sequence are those of a left scan over its input. -/
theorem ChainsBy.exists_runBlocks {out next : Group128 → Group128 → Group128} (h : ChainsBy s i out next)
    (ht : s.SharesSchedule t) (input : List Group128) (z : Group128) :
    ∃ u, runBlocks i input t = some (List.zipWith out (List.scanl next t.chainingValue input) input, u) ∧
      u.chainingValue = (List.scanl next t.chainingValue input).getD input.length z := by
  induction input generalizing t with
  | nil => exact ⟨t, rfl, rfl⟩
  | cons b bs ih =>
    have hexec := h (t.setData b) ⟨ht.kvalid, ht.rk, ht.nr⟩
    obtain ⟨u, hrun, hvalue⟩ := ih (t := (t.setData b).chained (out t.chainingValue b) (next t.chainingValue b))
      ⟨ht.kvalid, ht.rk, ht.nr⟩
    rw [List.scanl_cons, List.zipWith_cons_cons, List.length_cons, List.getD_cons_succ]
    exact ⟨u, runBlocks_cons hexec hrun, hvalue⟩

variable {f g : Group128 → Group128 → Group128}

theorem ChainsBy.exists_runBlocks_encrypt (h : ChainsBy s i f f) (ht : s.SharesSchedule t) (input : List Group128)
    (z : Group128) : ∃ u, runBlocks i input t = some (chainEncrypt f t.chainingValue input, u) ∧
      u.chainingValue = (t.chainingValue :: chainEncrypt f t.chainingValue input).getD input.length z := by
  rw [← scanl_eq_cons_chainEncrypt]
  exact h.exists_runBlocks ht input z

theorem ChainsBy.exists_runBlocks_decrypt (h : ChainsBy s i g fun _ b => b) (ht : s.SharesSchedule t)
    (input : List Group128) (z : Group128) : ∃ u, runBlocks i input t = some (chainDecrypt g t.chainingValue input, u) ∧
      u.chainingValue = (t.chainingValue :: input).getD input.length z := by
  rw [chainDecrypt, ← scanl_eq_cons_input]
  exact h.exists_runBlocks ht input z

/-- The equations of an encrypting mode (R230). -/
theorem ChainsBy.encrypt_equations (h : ChainsBy s i f f) (ht : s.SharesSchedule t) (input : List Group128)
    (z : Group128) : ∃ out u, runBlocks i input t = some (out, u) ∧ out.length = input.length ∧
      u.chainingValue = (t.chainingValue :: out).getD input.length z ∧
      ∀ n < input.length, out.getD n z = f ((t.chainingValue :: out).getD n z) (input.getD n z) := by
  obtain ⟨u, hrun, hvalue⟩ := h.exists_runBlocks_encrypt ht input z
  exact ⟨_, u, hrun, chainEncrypt_length .., hvalue, fun n hn => chainEncrypt_getD f _ z hn⟩

/-- The equations of a decrypting mode (R230). -/
theorem ChainsBy.decrypt_equations (h : ChainsBy s i g fun _ b => b) (ht : s.SharesSchedule t) (input : List Group128)
    (z : Group128) : ∃ out u, runBlocks i input t = some (out, u) ∧ out.length = input.length ∧
      u.chainingValue = (t.chainingValue :: input).getD input.length z ∧
      ∀ n < input.length, out.getD n z = g ((t.chainingValue :: input).getD n z) (input.getD n z) := by
  obtain ⟨u, hrun, hvalue⟩ := h.exists_runBlocks_decrypt ht input z
  exact ⟨_, u, hrun, chainDecrypt_length .., hvalue, fun n hn => chainDecrypt_getD g _ z hn⟩

/-! ## Encryption, then decryption (R231) -/

variable {j : Instr} {s' : State}

theorem TransformsBy.decrypt_encrypt {f g : Group128 → Group128} (henc : TransformsBy s i f) (hdec : TransformsBy s j g)
    (hinv : ∀ b, g (f b) = b) (ht : s.SharesSchedule t) (hs' : s.SharesSchedule s') (input : List Group128) :
    ∃ out u u', runBlocks i input t = some (out, u) ∧ runBlocks j out s' = some (input, u') := by
  obtain ⟨u, hrun, -⟩ := henc.exists_runBlocks ht input
  obtain ⟨u', hrun', -⟩ := hdec.exists_runBlocks hs' (input.map f)
  rw [List.map_map, show g ∘ f = id from funext hinv, List.map_id] at hrun'
  exact ⟨_, u, u', hrun, hrun'⟩

theorem ChainsBy.decrypt_encrypt (henc : ChainsBy s i f f) (hdec : ChainsBy s j g fun _ b => b)
    (hinv : ∀ v b, g v (f v b) = b) (ht : s.SharesSchedule t) (hs' : s.SharesSchedule s')
    (hvalue : s'.chainingValue = t.chainingValue) (input : List Group128) :
    ∃ out u u', runBlocks i input t = some (out, u) ∧ runBlocks j out s' = some (input, u') := by
  obtain ⟨u, hrun, -⟩ := henc.exists_runBlocks_encrypt ht input zeroGroup
  obtain ⟨u', hrun', -⟩ := hdec.exists_runBlocks_decrypt hs' (chainEncrypt f t.chainingValue input) zeroGroup
  rw [hvalue, chainDecrypt_chainEncrypt f g _ hinv] at hrun'
  exact ⟨_, u, u', hrun, hrun'⟩

end

/-- Settles O48: two list maps for ECB, and the equations of the chaining commands for CBC and CFB. -/
theorem sequencesObeyTheModeEquations : Obligations.SequencesObeyTheModeEquations := by
  intro s input z hkvalid
  have hs : s.SharesSchedule s := ⟨hkvalid, rfl, rfl⟩
  exact ⟨(transformsBy_mencEcb s).exists_runBlocks hs input, (transformsBy_mdecEcb s).exists_runBlocks hs input,
    (chainsBy_mencCbc s).encrypt_equations hs input z, (chainsBy_mdecCbc s).decrypt_equations hs input z,
    (chainsBy_mencCfb s).encrypt_equations hs input z, (chainsBy_mdecCfb s).decrypt_equations hs input z⟩

/-- Settles O49: in each mode the decryption of a block undoes its encryption under the same chaining value. -/
theorem decryptedSequencesAreTheInput : Obligations.DecryptedSequencesAreTheInput := by
  intro s s' input hkvalid hkvalid' hrk hnr hvalue p hp
  have hs : s.SharesSchedule s := ⟨hkvalid, rfl, rfl⟩
  have hs' : s.SharesSchedule s' := ⟨hkvalid', hrk, hnr⟩
  simp only [List.mem_cons, List.not_mem_nil, or_false] at hp
  rcases hp with rfl | rfl | rfl
  · exact (transformsBy_mencEcb s).decrypt_encrypt (transformsBy_mdecEcb s) s.decryptGroup_encryptGroup hs hs' input
  · exact (chainsBy_mencCbc s).decrypt_encrypt (chainsBy_mdecCbc s) s.cbcDecrypted_cbcEncrypted hs hs' hvalue input
  · exact (chainsBy_mencCfb s).decrypt_encrypt (chainsBy_mdecCfb s) s.cfbMasked_cfbMasked hs hs' hvalue input

end Sys2Proof.Machine
end

section
/-! A changed ciphertext block (R233): D and E are injective, and XOR carries the change through. -/

namespace Sys2Proof.Machine

/-! ## Injectivity -/

theorem xorGroup_left_injective (h : Group128) : Function.Injective (xorGroup · h) :=
  Function.LeftInverse.injective (g := (xorGroup · h)) fun g => xorGroup_xorGroup g h

theorem xorGroup_right_injective (g : Group128) : Function.Injective (xorGroup g) := by
  intro h k e
  rw [xorGroup_comm g h, xorGroup_comm g k] at e
  exact xorGroup_left_injective g e

theorem xorGroup_ne_self {d : Group128} (hd : ∃ j : Fin 4, d[j] ≠ 0) (g : Group128) : xorGroup g d ≠ g := by
  obtain ⟨j, hj⟩ := hd
  intro e
  have hword : g[j] ^^^ d[j] = g[j] := (xorGroup_getElem g d j.isLt).symm.trans (congrArg (·[j]) e)
  exact hj (BitVec.xor_right_inj g[j] |>.mp (hword.trans BitVec.xor_zero.symm))

theorem State.encryptGroup_injective (s : State) : Function.Injective s.encryptGroup :=
  Function.LeftInverse.injective s.decryptGroup_encryptGroup

theorem finite_group128 : Finite Group128 :=
  Finite.of_injective (fun (g : Group128) (j : Fin 4) => g[j]) fun _ _ e => Vector.ext fun j hj => congrFun e ⟨j, hj⟩

/-- The groups are finite, so that the injective E is onto and D is its inverse on either side. -/
theorem State.decryptGroup_injective (s : State) : Function.Injective s.decryptGroup := by
  have := finite_group128
  have honto : Function.Surjective s.encryptGroup := Finite.injective_iff_surjective.mp s.encryptGroup_injective
  have hinverse : Function.LeftInverse s.decryptGroup s.encryptGroup := s.decryptGroup_encryptGroup
  exact (hinverse.rightInverse_of_surjective honto).injective

/-! ## Both modes -/

/-- Settles O50: the changed block enters its own output and, as a chaining value, the next one. -/
theorem changedCiphertextSpoilsTwoBlocks : Obligations.ChangedCiphertextSpoilsTwoBlocks := by
  intro s c n d z hkvalid hn hd
  have hs : s.SharesSchedule s := ⟨hkvalid, rfl, rfl⟩
  have hne : xorGroup (c.getD n z) d ≠ c.getD n z := xorGroup_ne_self hd _
  obtain ⟨t, hrun, -⟩ := (chainsBy_mdecCbc s).exists_runBlocks_decrypt hs c z
  obtain ⟨t', hrun', -⟩ := (chainsBy_mdecCbc s).exists_runBlocks_decrypt hs (c.set n (xorGroup (c.getD n z) d)) z
  obtain ⟨u, hrunCfb, -⟩ := (chainsBy_mdecCfb s).exists_runBlocks_decrypt hs c z
  obtain ⟨u', hrunCfb', -⟩ := (chainsBy_mdecCfb s).exists_runBlocks_decrypt hs (c.set n (xorGroup (c.getD n z) d)) z
  refine ⟨⟨_, t, _, t', hrun, hrun', ?_, fun hsucc => ?_, fun m => chainDecrypt_set_getD_of_ne _ _ _ z⟩,
    ⟨_, u, _, u', hrunCfb, hrunCfb', ?_, fun hsucc => ?_, fun m => chainDecrypt_set_getD_of_ne _ _ _ z⟩⟩
  · rw [chainDecrypt_set_getD_self _ _ _ z hn, chainDecrypt_getD _ _ z hn]
    exact fun e => hne (s.decryptGroup_injective (xorGroup_left_injective _ e))
  · rw [chainDecrypt_set_getD_succ _ _ _ z hsucc, chainDecrypt_getD _ _ z hsucc, List.getD_cons_succ,
      State.cbcDecrypted, State.cbcDecrypted, xorGroup_assoc]
  · rw [chainDecrypt_set_getD_self _ _ _ z hn, chainDecrypt_getD _ _ z hn, State.cfbMasked, State.cfbMasked,
      xorGroup_assoc, xorGroup_assoc, xorGroup_comm d]
  · rw [chainDecrypt_set_getD_succ _ _ _ z hsucc, chainDecrypt_getD _ _ z hsucc, List.getD_cons_succ]
    exact fun e => hne (s.encryptGroup_injective (xorGroup_right_injective _ e))

end Sys2Proof.Machine
end

section
/-! The error record (R251 to R257): an error raised, the record cleared, and the record's bearing on a command. -/

namespace Sys2Proof.Machine

/-- Settles O23: the second state is the first with its error record replaced, which no command reads. -/
theorem errorRecordNeverChangesAResult : Obligations.ErrorRecordNeverChangesAResult :=
  fun i s e c => exec_sameButErrors s e c i

/-- Settles O21: recording the first error sets both fields, and an error already recorded is kept. -/
theorem firstErrorIsKept : Obligations.FirstErrorIsKept := by
  refine fun s e => ⟨fun herr => ?_, raise_of_err e s⟩
  rw [raise_eq, Status.record_of_not_err e _ herr, State.setStatus]

/-- A HOST write at index 1 while idle clears the error record when bit 2 of the value is 1, and is ignored otherwise
(R256). -/
theorem hostTurn_statusWrite_of_idle {s : State} {v : Word} {rest : List HostOp} (hidle : s.status.busy = false)
    (hprogram : s.program = .bus (.wr 1 v) :: rest) :
    hostTurn s = .next { if v.getLsbD 2 then s.clearError else s with program := rest } := by
  have hreg : regAtNat (1 : WindowIndex).toNat = .status := regAt_statusIndex
  rw [hostTurn_write_of_idle hidle hprogram, hreg, State.writeReg]

/-- Settles O11: idle, bit 2 of the value decides; busy, index 1 is one of the writable indices of O9's rule. -/
theorem statusWriteClearsOnlyTheErrorRecord : Obligations.StatusWriteClearsOnlyTheErrorRecord := by
  refine ⟨fun s v rest hprogram => ⟨fun hidle hbit => ?_, fun hidle hbit => ?_, fun hbusy => ?_⟩, rfl⟩
  · rw [hostTurn_statusWrite_of_idle hidle hprogram, hbit]
    rfl
  · rw [hostTurn_statusWrite_of_idle hidle hprogram, hbit]
    rfl
  · obtain ⟨hrecorded, -, -⟩ := writeWhileBusyIsDroppedAndRecorded s 1 v rest hbusy hprogram
    exact hrecorded (by decide)

end Sys2Proof.Machine
end

section
/-! Reset (R280 to R282): the words of the window after it, and what a RESET turn leaves, with and without an access in its
cycle. -/

namespace Sys2Proof.Machine

/-! ## The window after reset (R281) -/

/-- Each named register by its reset value; STATUS is zero in every field. -/
theorem State.reset_readReg (r : Reg) : State.reset.readReg r = 0 := by
  cases r with
  | cmd | status | res | reserved => rfl
  | data j | iv j | chain j | key j | rk j => exact Vector.getElem_replicate j.isLt

theorem State.windowWords_length (s : State) : s.windowWords.length = 1024 := by
  simp only [State.windowWords, List.length_append, List.length_cons, List.length_nil, Vector.length_toList,
    List.length_replicate]

/-- Settles O19: no command is in flight, so no read is a draw, and every register reads zero. -/
theorem resetStateReadsZeroEverywhere : Obligations.ResetStateReadsZeroEverywhere := by
  refine ⟨rfl, fun a => ?_, List.eq_replicate_iff.mpr ⟨State.windowWords_length _, fun w hw => ?_⟩⟩
  · simp [State.busValue, State.isDraw_of_idle (s := State.reset) rfl, State.reset_readReg]
  · obtain ⟨n, hn, rfl⟩ := List.mem_iff_getElem.mp hw
    rw [← List.getD_eq_getElem _ 0 hn, State.windowWords_getD, State.reset_readReg]

/-! ## The RESET turn (R280, R282) -/

/-- The state that a reset in the turn of `s` leaves: what stays is the HOST's operations, the turns to come and the
draws (log 12). -/
theorem State.beginTurn_resetRegisters {s : State} {a : Agent} {rest : List Agent} (hs : s.schedule = a :: rest) :
    s.beginTurn.resetRegisters = { State.reset with program := s.program, schedule := rest, draws := s.draws } := by
  rw [State.beginTurn, hs]
  rfl

/-- The step of a state whose schedule begins with RESET's turn is that turn (R9, R282). -/
theorem step_of_schedule_reset {s : State} {h : Bool} {rest : List Agent} (hs : s.schedule = .reset h :: rest) :
    step s = .next (resetTurn h s.beginTurn) :=
  step_reset (State.nextAgent_of_head? (by rw [hs, List.head?_cons]))

section
variable {s : State} {op : HostOp} {rest : List HostOp}

/-- With an access of the block in the reset cycle, the turn is that of the access during a reset (R280). -/
theorem resetTurn_of_onBus {b : BusOp} (hprogram : s.program = op :: rest) (hop : op.onBus = .next b) :
    resetTurn true s = b.duringReset rest s := by
  simp [resetTurn, hprogram, hop]

/-- An operation that reaches no word index leaves the reset as it is without one (log 12). -/
theorem resetTurn_of_not_onBus (hprogram : s.program = op :: rest) (hop : ∀ b, op.onBus ≠ .next b) :
    resetTurn true s = s.resetRegisters := by
  cases h : op.onBus with
  | next b => exact absurd h (hop b)
  | fault f => simp [resetTurn, hprogram, h]
  | refused r => simp [resetTurn, hprogram, h]

end

/-- Settles O20: the turn is the registers' reset with an access of the bus, if there is one, taken off the program. -/
theorem resetTurnZeroesEveryRegister : Obligations.ResetTurnZeroesEveryRegister := by
  refine ⟨fun s rest hs => ?_, fun s rest a more hs hprogram => ?_, fun s rest a v more hs hprogram => ?_,
    fun s rest h hs => ?_, fun s rest op more hs hprogram hop => ?_⟩
  · rw [step_of_schedule_reset hs, resetTurn_alone, State.beginTurn_resetRegisters hs]
  · rw [step_of_schedule_reset hs, resetTurn_of_onBus (s := s.beginTurn) hprogram rfl, BusOp.duringReset,
      State.beginTurn_resetRegisters hs]
  · rw [step_of_schedule_reset hs, resetTurn_of_onBus (s := s.beginTurn) hprogram rfl, BusOp.duringReset,
      State.beginTurn_resetRegisters hs]
  · obtain ⟨p, r, hreset⟩ := resetTurn_eq h s.beginTurn
    refine ⟨_, step_of_schedule_reset hs, ?_⟩
    rw [hreset, State.beginTurn_resetRegisters hs]
  · rw [step_of_schedule_reset hs, resetTurn_of_not_onBus (s := s.beginTurn) hprogram hop,
      State.beginTurn_resetRegisters hs]

end Sys2Proof.Machine
end
